-- ==== Sys2Proof/Word.lean ====
section
/-! DEFINITION. The two word types of NES-CORE (00_scope.md R6, R8). -/

namespace Sys2Proof

/-- `u8`: a register, a flag byte, a memory byte (R6, R8). -/
abbrev Byte := BitVec 8

/-- `u16`: a CPU address, the program counter, the PPU Address register (R6, R8). -/
abbrev Word := BitVec 16

end Sys2Proof
end

