-- ==== Sys2Proof/Machine/Bits.lean ====
section
/-! DEFINITION. The notation of 00_scope.md R8: halves of a word, concatenation, extension. -/

namespace Sys2Proof

/-- `w[7:0]`. -/
def lo (w : Word) : Byte := w.extractLsb' 0 8

/-- `w[15:8]`. -/
def hi (w : Word) : Byte := w.extractLsb' 8 8

/-- `h:l`, a `u16` from two `u8` (R8). -/
def cat (h l : Byte) : Word := h ++ l

/-- `zext_16(v)` (R8). -/
def zext (v : Byte) : Word := v.setWidth 16

/-- `sext_16(v)`: `v` if `v[7] = 0`, else `0xFF00 | v` (R8). -/
def sext (v : Byte) : Word := if v.getLsbD 7 then 0xFF00#16 ||| zext v else zext v

end Sys2Proof
end

