-- ==== Sys2Proof/Syntax.lean ====
section
/-! DEFINITION. The instructions of NES-CORE: one constructor for each row of spec/opcode_table.json, that is for each
implemented byte value (30_encoding.md R106, R107), in the order of the spec's own lists. An operand field holds the
bytes that follow the opcode: an immediate `v`, a zero-page or pointer address `a` of 8 bits, a displacement `d`, or a
16-bit address `a` (R91). Where several byte values share mnemonic and format, the name ends in the byte value. -/

namespace Sys2Proof

/-- An instruction (R90 to R92). -/
inductive Instr where
  /-- A9 LDA IMM (R131). -/
  | ldaImm (v : Byte)
  /-- A5 LDA ZP (R131). -/
  | ldaZp (a : Byte)
  /-- B5 LDA ZPX (R131). -/
  | ldaZpx (a : Byte)
  /-- AD LDA ABS (R131). -/
  | ldaAbs (a : Word)
  /-- BD LDA ABX (R131). -/
  | ldaAbx (a : Word)
  /-- B9 LDA ABY (R131). -/
  | ldaAby (a : Word)
  /-- A1 LDA IZX (R131). -/
  | ldaIzx (a : Byte)
  /-- B1 LDA IZY (R131). -/
  | ldaIzy (a : Byte)
  /-- A2 LDX IMM (R132). -/
  | ldxImm (v : Byte)
  /-- A6 LDX ZP (R132). -/
  | ldxZp (a : Byte)
  /-- B6 LDX ZPY (R132). -/
  | ldxZpy (a : Byte)
  /-- AE LDX ABS (R132). -/
  | ldxAbs (a : Word)
  /-- BE LDX ABY (R132). -/
  | ldxAby (a : Word)
  /-- A0 LDY IMM (R133). -/
  | ldyImm (v : Byte)
  /-- A4 LDY ZP (R133). -/
  | ldyZp (a : Byte)
  /-- B4 LDY ZPX (R133). -/
  | ldyZpx (a : Byte)
  /-- AC LDY ABS (R133). -/
  | ldyAbs (a : Word)
  /-- BC LDY ABX (R133). -/
  | ldyAbx (a : Word)
  /-- 85 STA ZP (R134). -/
  | staZp (a : Byte)
  /-- 95 STA ZPX (R134). -/
  | staZpx (a : Byte)
  /-- 8D STA ABS (R134). -/
  | staAbs (a : Word)
  /-- 9D STA ABX (R134). -/
  | staAbx (a : Word)
  /-- 99 STA ABY (R134). -/
  | staAby (a : Word)
  /-- 81 STA IZX (R134). -/
  | staIzx (a : Byte)
  /-- 91 STA IZY (R134). -/
  | staIzy (a : Byte)
  /-- 86 STX ZP (R135). -/
  | stxZp (a : Byte)
  /-- 96 STX ZPY (R135). -/
  | stxZpy (a : Byte)
  /-- 8E STX ABS (R135). -/
  | stxAbs (a : Word)
  /-- 84 STY ZP (R136). -/
  | styZp (a : Byte)
  /-- 94 STY ZPX (R136). -/
  | styZpx (a : Byte)
  /-- 8C STY ABS (R136). -/
  | styAbs (a : Word)
  /-- AA TAX IMP (R137). -/
  | tax
  /-- A8 TAY IMP (R138). -/
  | tay
  /-- 8A TXA IMP (R139). -/
  | txa
  /-- 98 TYA IMP (R140). -/
  | tya
  /-- BA TSX IMP (R141). -/
  | tsx
  /-- 9A TXS IMP (R142). -/
  | txs
  /-- 69 ADC IMM (R151). -/
  | adcImm (v : Byte)
  /-- 65 ADC ZP (R151). -/
  | adcZp (a : Byte)
  /-- 75 ADC ZPX (R151). -/
  | adcZpx (a : Byte)
  /-- 6D ADC ABS (R151). -/
  | adcAbs (a : Word)
  /-- 7D ADC ABX (R151). -/
  | adcAbx (a : Word)
  /-- 79 ADC ABY (R151). -/
  | adcAby (a : Word)
  /-- 61 ADC IZX (R151). -/
  | adcIzx (a : Byte)
  /-- 71 ADC IZY (R151). -/
  | adcIzy (a : Byte)
  /-- E9 SBC IMM (R152). -/
  | sbcImm (v : Byte)
  /-- E5 SBC ZP (R152). -/
  | sbcZp (a : Byte)
  /-- F5 SBC ZPX (R152). -/
  | sbcZpx (a : Byte)
  /-- ED SBC ABS (R152). -/
  | sbcAbs (a : Word)
  /-- FD SBC ABX (R152). -/
  | sbcAbx (a : Word)
  /-- F9 SBC ABY (R152). -/
  | sbcAby (a : Word)
  /-- E1 SBC IZX (R152). -/
  | sbcIzx (a : Byte)
  /-- F1 SBC IZY (R152). -/
  | sbcIzy (a : Byte)
  /-- 29 AND IMM (R153). -/
  | andImm (v : Byte)
  /-- 25 AND ZP (R153). -/
  | andZp (a : Byte)
  /-- 35 AND ZPX (R153). -/
  | andZpx (a : Byte)
  /-- 2D AND ABS (R153). -/
  | andAbs (a : Word)
  /-- 3D AND ABX (R153). -/
  | andAbx (a : Word)
  /-- 39 AND ABY (R153). -/
  | andAby (a : Word)
  /-- 21 AND IZX (R153). -/
  | andIzx (a : Byte)
  /-- 31 AND IZY (R153). -/
  | andIzy (a : Byte)
  /-- 09 ORA IMM (R154). -/
  | oraImm (v : Byte)
  /-- 05 ORA ZP (R154). -/
  | oraZp (a : Byte)
  /-- 15 ORA ZPX (R154). -/
  | oraZpx (a : Byte)
  /-- 0D ORA ABS (R154). -/
  | oraAbs (a : Word)
  /-- 1D ORA ABX (R154). -/
  | oraAbx (a : Word)
  /-- 19 ORA ABY (R154). -/
  | oraAby (a : Word)
  /-- 01 ORA IZX (R154). -/
  | oraIzx (a : Byte)
  /-- 11 ORA IZY (R154). -/
  | oraIzy (a : Byte)
  /-- 49 EOR IMM (R155). -/
  | eorImm (v : Byte)
  /-- 45 EOR ZP (R155). -/
  | eorZp (a : Byte)
  /-- 55 EOR ZPX (R155). -/
  | eorZpx (a : Byte)
  /-- 4D EOR ABS (R155). -/
  | eorAbs (a : Word)
  /-- 5D EOR ABX (R155). -/
  | eorAbx (a : Word)
  /-- 59 EOR ABY (R155). -/
  | eorAby (a : Word)
  /-- 41 EOR IZX (R155). -/
  | eorIzx (a : Byte)
  /-- 51 EOR IZY (R155). -/
  | eorIzy (a : Byte)
  /-- C9 CMP IMM (R157). -/
  | cmpImm (v : Byte)
  /-- C5 CMP ZP (R157). -/
  | cmpZp (a : Byte)
  /-- D5 CMP ZPX (R157). -/
  | cmpZpx (a : Byte)
  /-- CD CMP ABS (R157). -/
  | cmpAbs (a : Word)
  /-- DD CMP ABX (R157). -/
  | cmpAbx (a : Word)
  /-- D9 CMP ABY (R157). -/
  | cmpAby (a : Word)
  /-- C1 CMP IZX (R157). -/
  | cmpIzx (a : Byte)
  /-- D1 CMP IZY (R157). -/
  | cmpIzy (a : Byte)
  /-- E0 CPX IMM (R158). -/
  | cpxImm (v : Byte)
  /-- E4 CPX ZP (R158). -/
  | cpxZp (a : Byte)
  /-- EC CPX ABS (R158). -/
  | cpxAbs (a : Word)
  /-- C0 CPY IMM (R159). -/
  | cpyImm (v : Byte)
  /-- C4 CPY ZP (R159). -/
  | cpyZp (a : Byte)
  /-- CC CPY ABS (R159). -/
  | cpyAbs (a : Word)
  /-- 24 BIT ZP (R160). -/
  | bitZp (a : Byte)
  /-- 2C BIT ABS (R160). -/
  | bitAbs (a : Word)
  /-- E6 INC ZP (R161). -/
  | incZp (a : Byte)
  /-- F6 INC ZPX (R161). -/
  | incZpx (a : Byte)
  /-- EE INC ABS (R161). -/
  | incAbs (a : Word)
  /-- FE INC ABX (R161). -/
  | incAbx (a : Word)
  /-- C6 DEC ZP (R162). -/
  | decZp (a : Byte)
  /-- D6 DEC ZPX (R162). -/
  | decZpx (a : Byte)
  /-- CE DEC ABS (R162). -/
  | decAbs (a : Word)
  /-- DE DEC ABX (R162). -/
  | decAbx (a : Word)
  /-- E8 INX IMP (R163). -/
  | inx
  /-- C8 INY IMP (R164). -/
  | iny
  /-- CA DEX IMP (R165). -/
  | dex
  /-- 88 DEY IMP (R166). -/
  | dey
  /-- 0A ASL ACC (R181). -/
  | aslAcc
  /-- 06 ASL ZP (R181). -/
  | aslZp (a : Byte)
  /-- 16 ASL ZPX (R181). -/
  | aslZpx (a : Byte)
  /-- 0E ASL ABS (R181). -/
  | aslAbs (a : Word)
  /-- 1E ASL ABX (R181). -/
  | aslAbx (a : Word)
  /-- 4A LSR ACC (R182). -/
  | lsrAcc
  /-- 46 LSR ZP (R182). -/
  | lsrZp (a : Byte)
  /-- 56 LSR ZPX (R182). -/
  | lsrZpx (a : Byte)
  /-- 4E LSR ABS (R182). -/
  | lsrAbs (a : Word)
  /-- 5E LSR ABX (R182). -/
  | lsrAbx (a : Word)
  /-- 2A ROL ACC (R183). -/
  | rolAcc
  /-- 26 ROL ZP (R183). -/
  | rolZp (a : Byte)
  /-- 36 ROL ZPX (R183). -/
  | rolZpx (a : Byte)
  /-- 2E ROL ABS (R183). -/
  | rolAbs (a : Word)
  /-- 3E ROL ABX (R183). -/
  | rolAbx (a : Word)
  /-- 6A ROR ACC (R184). -/
  | rorAcc
  /-- 66 ROR ZP (R184). -/
  | rorZp (a : Byte)
  /-- 76 ROR ZPX (R184). -/
  | rorZpx (a : Byte)
  /-- 6E ROR ABS (R184). -/
  | rorAbs (a : Word)
  /-- 7E ROR ABX (R184). -/
  | rorAbx (a : Word)
  /-- 4C JMP ABS (R191). -/
  | jmpAbs (a : Word)
  /-- 6C JMP IND (R192). -/
  | jmpInd (a : Word)
  /-- 20 JSR ABS (R193). -/
  | jsr (a : Word)
  /-- 60 RTS IMP (R194). -/
  | rts
  /-- 40 RTI IMP (R195). -/
  | rti
  /-- 90 BCC REL (R197). -/
  | bcc (d : Byte)
  /-- B0 BCS REL (R198). -/
  | bcs (d : Byte)
  /-- F0 BEQ REL (R199). -/
  | beq (d : Byte)
  /-- D0 BNE REL (R200). -/
  | bne (d : Byte)
  /-- 30 BMI REL (R201). -/
  | bmi (d : Byte)
  /-- 10 BPL REL (R202). -/
  | bpl (d : Byte)
  /-- 50 BVC REL (R203). -/
  | bvc (d : Byte)
  /-- 70 BVS REL (R204). -/
  | bvs (d : Byte)
  /-- 00 BRK IMP (R205). -/
  | brk
  /-- EA NOP IMP (R206). -/
  | nop
  /-- 48 PHA IMP (R220). -/
  | pha
  /-- 68 PLA IMP (R221). -/
  | pla
  /-- 08 PHP IMP (R222). -/
  | php
  /-- 28 PLP IMP (R223). -/
  | plp
  /-- 18 CLC IMP (R224). -/
  | clc
  /-- 38 SEC IMP (R225). -/
  | sec
  /-- 58 CLI IMP (R226). -/
  | cli
  /-- 78 SEI IMP (R227). -/
  | sei
  /-- D8 CLD IMP (R228). -/
  | cld
  /-- F8 SED IMP (R229). -/
  | sed
  /-- B8 CLV IMP (R230). -/
  | clv
  /-- 07 SLO ZP (R241). -/
  | sloZp (a : Byte)
  /-- 17 SLO ZPX (R241). -/
  | sloZpx (a : Byte)
  /-- 0F SLO ABS (R241). -/
  | sloAbs (a : Word)
  /-- 1F SLO ABX (R241). -/
  | sloAbx (a : Word)
  /-- 1B SLO ABY (R241). -/
  | sloAby (a : Word)
  /-- 03 SLO IZX (R241). -/
  | sloIzx (a : Byte)
  /-- 13 SLO IZY (R241). -/
  | sloIzy (a : Byte)
  /-- 27 RLA ZP (R242). -/
  | rlaZp (a : Byte)
  /-- 37 RLA ZPX (R242). -/
  | rlaZpx (a : Byte)
  /-- 2F RLA ABS (R242). -/
  | rlaAbs (a : Word)
  /-- 3F RLA ABX (R242). -/
  | rlaAbx (a : Word)
  /-- 3B RLA ABY (R242). -/
  | rlaAby (a : Word)
  /-- 23 RLA IZX (R242). -/
  | rlaIzx (a : Byte)
  /-- 33 RLA IZY (R242). -/
  | rlaIzy (a : Byte)
  /-- 47 SRE ZP (R243). -/
  | sreZp (a : Byte)
  /-- 57 SRE ZPX (R243). -/
  | sreZpx (a : Byte)
  /-- 4F SRE ABS (R243). -/
  | sreAbs (a : Word)
  /-- 5F SRE ABX (R243). -/
  | sreAbx (a : Word)
  /-- 5B SRE ABY (R243). -/
  | sreAby (a : Word)
  /-- 43 SRE IZX (R243). -/
  | sreIzx (a : Byte)
  /-- 53 SRE IZY (R243). -/
  | sreIzy (a : Byte)
  /-- 67 RRA ZP (R244). -/
  | rraZp (a : Byte)
  /-- 77 RRA ZPX (R244). -/
  | rraZpx (a : Byte)
  /-- 6F RRA ABS (R244). -/
  | rraAbs (a : Word)
  /-- 7F RRA ABX (R244). -/
  | rraAbx (a : Word)
  /-- 7B RRA ABY (R244). -/
  | rraAby (a : Word)
  /-- 63 RRA IZX (R244). -/
  | rraIzx (a : Byte)
  /-- 73 RRA IZY (R244). -/
  | rraIzy (a : Byte)
  /-- 87 SAX ZP (R245). -/
  | saxZp (a : Byte)
  /-- 97 SAX ZPY (R245). -/
  | saxZpy (a : Byte)
  /-- 8F SAX ABS (R245). -/
  | saxAbs (a : Word)
  /-- 83 SAX IZX (R245). -/
  | saxIzx (a : Byte)
  /-- A7 LAX ZP (R246). -/
  | laxZp (a : Byte)
  /-- B7 LAX ZPY (R246). -/
  | laxZpy (a : Byte)
  /-- AF LAX ABS (R246). -/
  | laxAbs (a : Word)
  /-- BF LAX ABY (R246). -/
  | laxAby (a : Word)
  /-- A3 LAX IZX (R246). -/
  | laxIzx (a : Byte)
  /-- B3 LAX IZY (R246). -/
  | laxIzy (a : Byte)
  /-- C7 DCP ZP (R247). -/
  | dcpZp (a : Byte)
  /-- D7 DCP ZPX (R247). -/
  | dcpZpx (a : Byte)
  /-- CF DCP ABS (R247). -/
  | dcpAbs (a : Word)
  /-- DF DCP ABX (R247). -/
  | dcpAbx (a : Word)
  /-- DB DCP ABY (R247). -/
  | dcpAby (a : Word)
  /-- C3 DCP IZX (R247). -/
  | dcpIzx (a : Byte)
  /-- D3 DCP IZY (R247). -/
  | dcpIzy (a : Byte)
  /-- E7 ISB ZP (R248). -/
  | isbZp (a : Byte)
  /-- F7 ISB ZPX (R248). -/
  | isbZpx (a : Byte)
  /-- EF ISB ABS (R248). -/
  | isbAbs (a : Word)
  /-- FF ISB ABX (R248). -/
  | isbAbx (a : Word)
  /-- FB ISB ABY (R248). -/
  | isbAby (a : Word)
  /-- E3 ISB IZX (R248). -/
  | isbIzx (a : Byte)
  /-- F3 ISB IZY (R248). -/
  | isbIzy (a : Byte)
  /-- 0B ANC IMM (R249). -/
  | ancImm0B (v : Byte)
  /-- 2B ANC IMM (R249). -/
  | ancImm2B (v : Byte)
  /-- 4B ALR IMM (R250). -/
  | alrImm (v : Byte)
  /-- 6B ARR IMM (R251). -/
  | arrImm (v : Byte)
  /-- CB AXS IMM (R252). -/
  | axsImm (v : Byte)
  /-- EB SBC IMM (R253). -/
  | sbcImmEB (v : Byte)
  /-- 1A NOP IMP (R254). -/
  | nop1A
  /-- 3A NOP IMP (R254). -/
  | nop3A
  /-- 5A NOP IMP (R254). -/
  | nop5A
  /-- 7A NOP IMP (R254). -/
  | nop7A
  /-- DA NOP IMP (R254). -/
  | nopDA
  /-- FA NOP IMP (R254). -/
  | nopFA
  /-- 80 NOP IMM (R255). -/
  | nopImm80 (v : Byte)
  /-- 82 NOP IMM (R255). -/
  | nopImm82 (v : Byte)
  /-- 89 NOP IMM (R255). -/
  | nopImm89 (v : Byte)
  /-- C2 NOP IMM (R255). -/
  | nopImmC2 (v : Byte)
  /-- E2 NOP IMM (R255). -/
  | nopImmE2 (v : Byte)
  /-- 04 NOP ZP (R256). -/
  | nopZp04 (a : Byte)
  /-- 44 NOP ZP (R256). -/
  | nopZp44 (a : Byte)
  /-- 64 NOP ZP (R256). -/
  | nopZp64 (a : Byte)
  /-- 14 NOP ZPX (R256). -/
  | nopZpx14 (a : Byte)
  /-- 34 NOP ZPX (R256). -/
  | nopZpx34 (a : Byte)
  /-- 54 NOP ZPX (R256). -/
  | nopZpx54 (a : Byte)
  /-- 74 NOP ZPX (R256). -/
  | nopZpx74 (a : Byte)
  /-- D4 NOP ZPX (R256). -/
  | nopZpxD4 (a : Byte)
  /-- F4 NOP ZPX (R256). -/
  | nopZpxF4 (a : Byte)
  /-- 0C NOP ABS (R256). -/
  | nopAbs0C (a : Word)
  /-- 1C NOP ABX (R256). -/
  | nopAbx1C (a : Word)
  /-- 3C NOP ABX (R256). -/
  | nopAbx3C (a : Word)
  /-- 5C NOP ABX (R256). -/
  | nopAbx5C (a : Word)
  /-- 7C NOP ABX (R256). -/
  | nopAbx7C (a : Word)
  /-- DC NOP ABX (R256). -/
  | nopAbxDC (a : Word)
  /-- FC NOP ABX (R256). -/
  | nopAbxFC (a : Word)
deriving DecidableEq, Repr

end Sys2Proof
end

