-- ==== Sys2Proof/WellFormed.lean ====
section
/-! DEFINITION. Mnemonics, formats and operands; the view of an instruction as mnemonic and operand; and the check that
a written instruction is one the opcode map has (30_encoding.md R91, R106, R107, R110). The fields of `Instr` have the
widths of their bytes, so every `Instr` is well-formed; what can be ill-formed is a mnemonic written with an operand
form the map does not give it (an immediate store, a load through an indirect pointer). -/

namespace Sys2Proof

/-- The 68 mnemonics: 56 official (R106) and 12 undocumented (R107). -/
inductive Mnemonic where
  | lda | ldx | ldy | sta | stx | sty | tax | tay | txa | tya | tsx | txs
  | adc | sbc | and | ora | eor | cmp | cpx | cpy | bit | inc | dec | inx
  | iny | dex | dey | asl | lsr | rol | ror | jmp | jsr | rts | rti | bcc
  | bcs | beq | bne | bmi | bpl | bvc | bvs | brk | nop | pha | pla | php
  | plp | clc | sec | cli | sei | cld | sed | clv | slo | rla | sre | rra
  | sax | lax | dcp | isb | anc | alr | arr | axs
deriving DecidableEq, Repr

/-- The thirteen formats (R91). -/
inductive Format where
  | imp | acc | imm | zp | zpx | zpy | rel | izx | izy | abs | abx | aby | ind
deriving DecidableEq, Repr

/-- The operand-byte count, a function of the format (R91, R92). -/
def Format.operandBytes : Format → Nat
  | .imp | .acc => 0
  | .imm | .zp | .zpx | .zpy | .rel | .izx | .izy => 1
  | .abs | .abx | .aby | .ind => 2

/-- An operand: its format and the bytes that follow the opcode (R91). -/
inductive Operand where
  /-- None (R104). -/
  | imp
  /-- The accumulator (R104). -/
  | acc
  /-- `#$nn` (R94). -/
  | imm (v : Byte)
  /-- `$nn` (R95). -/
  | zp (a : Byte)
  /-- `$nn,X` (R96). -/
  | zpx (a : Byte)
  /-- `$nn,Y` (R97). -/
  | zpy (a : Byte)
  /-- A branch displacement (R105). -/
  | rel (d : Byte)
  /-- `($nn,X)` (R102). -/
  | izx (a : Byte)
  /-- `($nn),Y` (R103). -/
  | izy (a : Byte)
  /-- `$nnnn` (R98). -/
  | abs (a : Word)
  /-- `$nnnn,X` (R99). -/
  | abx (a : Word)
  /-- `$nnnn,Y` (R100). -/
  | aby (a : Word)
  /-- `($nnnn)` (R101). -/
  | ind (a : Word)
deriving DecidableEq, Repr

/-- The operand's format. -/
def Operand.format : Operand → Format
  | .imp => .imp
  | .acc => .acc
  | .imm _ => .imm
  | .zp _ => .zp
  | .zpx _ => .zpx
  | .zpy _ => .zpy
  | .rel _ => .rel
  | .izx _ => .izx
  | .izy _ => .izy
  | .abs _ => .abs
  | .abx _ => .abx
  | .aby _ => .aby
  | .ind _ => .ind

/-- The operand-byte count of the operand's format (R91, R92). -/
def Operand.operandBytes (o : Operand) : Nat := o.format.operandBytes

/-- The bytes after the opcode, the low byte of an address first (R91). -/
def Operand.bytes : Operand → List Byte
  | .imp | .acc => []
  | .imm b | .zp b | .zpx b | .zpy b | .rel b | .izx b | .izy b => [b]
  | .abs a | .abx a | .aby a | .ind a => [lo a, hi a]

/-- The instruction's mnemonic (R106, R107). -/
def Instr.mnemonic : Instr → Mnemonic
  | .ldaImm _ | .ldaZp _ | .ldaZpx _ | .ldaAbs _ | .ldaAbx _ | .ldaAby _ | .ldaIzx _ | .ldaIzy _ => .lda
  | .ldxImm _ | .ldxZp _ | .ldxZpy _ | .ldxAbs _ | .ldxAby _ => .ldx
  | .ldyImm _ | .ldyZp _ | .ldyZpx _ | .ldyAbs _ | .ldyAbx _ => .ldy
  | .staZp _ | .staZpx _ | .staAbs _ | .staAbx _ | .staAby _ | .staIzx _ | .staIzy _ => .sta
  | .stxZp _ | .stxZpy _ | .stxAbs _ => .stx
  | .styZp _ | .styZpx _ | .styAbs _ => .sty
  | .tax => .tax
  | .tay => .tay
  | .txa => .txa
  | .tya => .tya
  | .tsx => .tsx
  | .txs => .txs
  | .adcImm _ | .adcZp _ | .adcZpx _ | .adcAbs _ | .adcAbx _ | .adcAby _ | .adcIzx _ | .adcIzy _ => .adc
  | .sbcImm _ | .sbcZp _ | .sbcZpx _ | .sbcAbs _ | .sbcAbx _ | .sbcAby _ | .sbcIzx _ | .sbcIzy _ | .sbcImmEB _ => .sbc
  | .andImm _ | .andZp _ | .andZpx _ | .andAbs _ | .andAbx _ | .andAby _ | .andIzx _ | .andIzy _ => .and
  | .oraImm _ | .oraZp _ | .oraZpx _ | .oraAbs _ | .oraAbx _ | .oraAby _ | .oraIzx _ | .oraIzy _ => .ora
  | .eorImm _ | .eorZp _ | .eorZpx _ | .eorAbs _ | .eorAbx _ | .eorAby _ | .eorIzx _ | .eorIzy _ => .eor
  | .cmpImm _ | .cmpZp _ | .cmpZpx _ | .cmpAbs _ | .cmpAbx _ | .cmpAby _ | .cmpIzx _ | .cmpIzy _ => .cmp
  | .cpxImm _ | .cpxZp _ | .cpxAbs _ => .cpx
  | .cpyImm _ | .cpyZp _ | .cpyAbs _ => .cpy
  | .bitZp _ | .bitAbs _ => .bit
  | .incZp _ | .incZpx _ | .incAbs _ | .incAbx _ => .inc
  | .decZp _ | .decZpx _ | .decAbs _ | .decAbx _ => .dec
  | .inx => .inx
  | .iny => .iny
  | .dex => .dex
  | .dey => .dey
  | .aslAcc | .aslZp _ | .aslZpx _ | .aslAbs _ | .aslAbx _ => .asl
  | .lsrAcc | .lsrZp _ | .lsrZpx _ | .lsrAbs _ | .lsrAbx _ => .lsr
  | .rolAcc | .rolZp _ | .rolZpx _ | .rolAbs _ | .rolAbx _ => .rol
  | .rorAcc | .rorZp _ | .rorZpx _ | .rorAbs _ | .rorAbx _ => .ror
  | .jmpAbs _ | .jmpInd _ => .jmp
  | .jsr _ => .jsr
  | .rts => .rts
  | .rti => .rti
  | .bcc _ => .bcc
  | .bcs _ => .bcs
  | .beq _ => .beq
  | .bne _ => .bne
  | .bmi _ => .bmi
  | .bpl _ => .bpl
  | .bvc _ => .bvc
  | .bvs _ => .bvs
  | .brk => .brk
  | .nop | .nop1A | .nop3A | .nop5A | .nop7A | .nopDA | .nopFA | .nopImm80 _ | .nopImm82 _ | .nopImm89 _
  | .nopImmC2 _ | .nopImmE2 _ | .nopZp04 _ | .nopZp44 _ | .nopZp64 _ | .nopZpx14 _ | .nopZpx34 _ | .nopZpx54 _
  | .nopZpx74 _ | .nopZpxD4 _ | .nopZpxF4 _ | .nopAbs0C _ | .nopAbx1C _ | .nopAbx3C _ | .nopAbx5C _
  | .nopAbx7C _ | .nopAbxDC _ | .nopAbxFC _ => .nop
  | .pha => .pha
  | .pla => .pla
  | .php => .php
  | .plp => .plp
  | .clc => .clc
  | .sec => .sec
  | .cli => .cli
  | .sei => .sei
  | .cld => .cld
  | .sed => .sed
  | .clv => .clv
  | .sloZp _ | .sloZpx _ | .sloAbs _ | .sloAbx _ | .sloAby _ | .sloIzx _ | .sloIzy _ => .slo
  | .rlaZp _ | .rlaZpx _ | .rlaAbs _ | .rlaAbx _ | .rlaAby _ | .rlaIzx _ | .rlaIzy _ => .rla
  | .sreZp _ | .sreZpx _ | .sreAbs _ | .sreAbx _ | .sreAby _ | .sreIzx _ | .sreIzy _ => .sre
  | .rraZp _ | .rraZpx _ | .rraAbs _ | .rraAbx _ | .rraAby _ | .rraIzx _ | .rraIzy _ => .rra
  | .saxZp _ | .saxZpy _ | .saxAbs _ | .saxIzx _ => .sax
  | .laxZp _ | .laxZpy _ | .laxAbs _ | .laxAby _ | .laxIzx _ | .laxIzy _ => .lax
  | .dcpZp _ | .dcpZpx _ | .dcpAbs _ | .dcpAbx _ | .dcpAby _ | .dcpIzx _ | .dcpIzy _ => .dcp
  | .isbZp _ | .isbZpx _ | .isbAbs _ | .isbAbx _ | .isbAby _ | .isbIzx _ | .isbIzy _ => .isb
  | .ancImm0B _ | .ancImm2B _ => .anc
  | .alrImm _ => .alr
  | .arrImm _ => .arr
  | .axsImm _ => .axs

/-- The instruction's operand (R106, R107). -/
def Instr.operand : Instr → Operand
  | .tax | .tay | .txa | .tya | .tsx | .txs | .inx | .iny | .dex | .dey | .rts | .rti | .brk | .nop | .pha
  | .pla | .php | .plp | .clc | .sec | .cli | .sei | .cld | .sed | .clv | .nop1A | .nop3A | .nop5A | .nop7A
  | .nopDA | .nopFA => .imp
  | .aslAcc | .lsrAcc | .rolAcc | .rorAcc => .acc
  | .ldaImm v | .ldxImm v | .ldyImm v | .adcImm v | .sbcImm v | .andImm v | .oraImm v | .eorImm v | .cmpImm v
  | .cpxImm v | .cpyImm v | .ancImm0B v | .ancImm2B v | .alrImm v | .arrImm v | .axsImm v | .sbcImmEB v
  | .nopImm80 v | .nopImm82 v | .nopImm89 v | .nopImmC2 v | .nopImmE2 v => .imm v
  | .ldaZp a | .ldxZp a | .ldyZp a | .staZp a | .stxZp a | .styZp a | .adcZp a | .sbcZp a | .andZp a | .oraZp a
  | .eorZp a | .cmpZp a | .cpxZp a | .cpyZp a | .bitZp a | .incZp a | .decZp a | .aslZp a | .lsrZp a | .rolZp a
  | .rorZp a | .sloZp a | .rlaZp a | .sreZp a | .rraZp a | .saxZp a | .laxZp a | .dcpZp a | .isbZp a
  | .nopZp04 a | .nopZp44 a | .nopZp64 a => .zp a
  | .ldaZpx a | .ldyZpx a | .staZpx a | .styZpx a | .adcZpx a | .sbcZpx a | .andZpx a | .oraZpx a | .eorZpx a
  | .cmpZpx a | .incZpx a | .decZpx a | .aslZpx a | .lsrZpx a | .rolZpx a | .rorZpx a | .sloZpx a | .rlaZpx a
  | .sreZpx a | .rraZpx a | .dcpZpx a | .isbZpx a | .nopZpx14 a | .nopZpx34 a | .nopZpx54 a | .nopZpx74 a
  | .nopZpxD4 a | .nopZpxF4 a => .zpx a
  | .ldxZpy a | .stxZpy a | .saxZpy a | .laxZpy a => .zpy a
  | .bcc d | .bcs d | .beq d | .bne d | .bmi d | .bpl d | .bvc d | .bvs d => .rel d
  | .ldaIzx a | .staIzx a | .adcIzx a | .sbcIzx a | .andIzx a | .oraIzx a | .eorIzx a | .cmpIzx a | .sloIzx a
  | .rlaIzx a | .sreIzx a | .rraIzx a | .saxIzx a | .laxIzx a | .dcpIzx a | .isbIzx a => .izx a
  | .ldaIzy a | .staIzy a | .adcIzy a | .sbcIzy a | .andIzy a | .oraIzy a | .eorIzy a | .cmpIzy a | .sloIzy a
  | .rlaIzy a | .sreIzy a | .rraIzy a | .laxIzy a | .dcpIzy a | .isbIzy a => .izy a
  | .ldaAbs a | .ldxAbs a | .ldyAbs a | .staAbs a | .stxAbs a | .styAbs a | .adcAbs a | .sbcAbs a | .andAbs a
  | .oraAbs a | .eorAbs a | .cmpAbs a | .cpxAbs a | .cpyAbs a | .bitAbs a | .incAbs a | .decAbs a | .aslAbs a
  | .lsrAbs a | .rolAbs a | .rorAbs a | .jmpAbs a | .jsr a | .sloAbs a | .rlaAbs a | .sreAbs a | .rraAbs a
  | .saxAbs a | .laxAbs a | .dcpAbs a | .isbAbs a | .nopAbs0C a => .abs a
  | .ldaAbx a | .ldyAbx a | .staAbx a | .adcAbx a | .sbcAbx a | .andAbx a | .oraAbx a | .eorAbx a | .cmpAbx a
  | .incAbx a | .decAbx a | .aslAbx a | .lsrAbx a | .rolAbx a | .rorAbx a | .sloAbx a | .rlaAbx a | .sreAbx a
  | .rraAbx a | .dcpAbx a | .isbAbx a | .nopAbx1C a | .nopAbx3C a | .nopAbx5C a | .nopAbx7C a | .nopAbxDC a
  | .nopAbxFC a => .abx a
  | .ldaAby a | .ldxAby a | .staAby a | .adcAby a | .sbcAby a | .andAby a | .oraAby a | .eorAby a | .cmpAby a
  | .sloAby a | .rlaAby a | .sreAby a | .rraAby a | .laxAby a | .dcpAby a | .isbAby a => .aby a
  | .jmpInd a => .ind a

/-- The formats the opcode map gives a mnemonic (R106, R107). -/
def Mnemonic.formats : Mnemonic → List Format
  | .lda => [.imm, .zp, .zpx, .abs, .abx, .aby, .izx, .izy]
  | .ldx => [.imm, .zp, .zpy, .abs, .aby]
  | .ldy => [.imm, .zp, .zpx, .abs, .abx]
  | .sta => [.zp, .zpx, .abs, .abx, .aby, .izx, .izy]
  | .stx => [.zp, .zpy, .abs]
  | .sty => [.zp, .zpx, .abs]
  | .tax => [.imp]
  | .tay => [.imp]
  | .txa => [.imp]
  | .tya => [.imp]
  | .tsx => [.imp]
  | .txs => [.imp]
  | .adc => [.imm, .zp, .zpx, .abs, .abx, .aby, .izx, .izy]
  | .sbc => [.imm, .zp, .zpx, .abs, .abx, .aby, .izx, .izy]
  | .and => [.imm, .zp, .zpx, .abs, .abx, .aby, .izx, .izy]
  | .ora => [.imm, .zp, .zpx, .abs, .abx, .aby, .izx, .izy]
  | .eor => [.imm, .zp, .zpx, .abs, .abx, .aby, .izx, .izy]
  | .cmp => [.imm, .zp, .zpx, .abs, .abx, .aby, .izx, .izy]
  | .cpx => [.imm, .zp, .abs]
  | .cpy => [.imm, .zp, .abs]
  | .bit => [.zp, .abs]
  | .inc => [.zp, .zpx, .abs, .abx]
  | .dec => [.zp, .zpx, .abs, .abx]
  | .inx => [.imp]
  | .iny => [.imp]
  | .dex => [.imp]
  | .dey => [.imp]
  | .asl => [.acc, .zp, .zpx, .abs, .abx]
  | .lsr => [.acc, .zp, .zpx, .abs, .abx]
  | .rol => [.acc, .zp, .zpx, .abs, .abx]
  | .ror => [.acc, .zp, .zpx, .abs, .abx]
  | .jmp => [.abs, .ind]
  | .jsr => [.abs]
  | .rts => [.imp]
  | .rti => [.imp]
  | .bcc => [.rel]
  | .bcs => [.rel]
  | .beq => [.rel]
  | .bne => [.rel]
  | .bmi => [.rel]
  | .bpl => [.rel]
  | .bvc => [.rel]
  | .bvs => [.rel]
  | .brk => [.imp]
  | .nop => [.imp, .imm, .zp, .zpx, .abs, .abx]
  | .pha => [.imp]
  | .pla => [.imp]
  | .php => [.imp]
  | .plp => [.imp]
  | .clc => [.imp]
  | .sec => [.imp]
  | .cli => [.imp]
  | .sei => [.imp]
  | .cld => [.imp]
  | .sed => [.imp]
  | .clv => [.imp]
  | .slo => [.zp, .zpx, .abs, .abx, .aby, .izx, .izy]
  | .rla => [.zp, .zpx, .abs, .abx, .aby, .izx, .izy]
  | .sre => [.zp, .zpx, .abs, .abx, .aby, .izx, .izy]
  | .rra => [.zp, .zpx, .abs, .abx, .aby, .izx, .izy]
  | .sax => [.zp, .zpy, .abs, .izx]
  | .lax => [.zp, .zpy, .abs, .aby, .izx, .izy]
  | .dcp => [.zp, .zpx, .abs, .abx, .aby, .izx, .izy]
  | .isb => [.zp, .zpx, .abs, .abx, .aby, .izx, .izy]
  | .anc => [.imm]
  | .alr => [.imm]
  | .arr => [.imm]
  | .axs => [.imm]

/-- An instruction as it is written in assembler text: a mnemonic and an operand (R110). -/
structure Written where
  mnemonic : Mnemonic
  operand : Operand
deriving DecidableEq, Repr

/-- The check of a written instruction: the opcode map has the mnemonic in the operand's format. -/
def Written.wellFormed (t : Written) : Bool := t.mnemonic.formats.contains t.operand.format

/-- The instruction as it is written. -/
def Instr.written (i : Instr) : Written := ⟨i.mnemonic, i.operand⟩

/-- The check of an instruction: that of its written form. -/
def Instr.wellFormed (i : Instr) : Bool := i.written.wellFormed

end Sys2Proof
end

