-- ==== Sys2Proof/Decode.lean ====
section
/-! DEFINITION. The opcode table OPTABLE (30_encoding.md R92, R106 to R108), the decoder, total on any bytes, and the
encoder. The table is written from the spec's matrix of one cell per byte value, the decoder's choice of constructor
from its lists per mnemonic; Laws/PerInstr.lean proves that the two agree. -/

namespace Sys2Proof

/-- An opcode descriptor (R92); the operand-byte count is a function of the format. -/
structure Descriptor where
  mnemonic : Mnemonic
  format : Format
  cycles : Nat
deriving DecidableEq, Repr

/-- A cell of the matrix that is implemented. -/
def cell (m : Mnemonic) (f : Format) (cycles : Nat) : Option Descriptor := some ⟨m, f, cycles⟩

/-- A cell of the matrix that is an unknown opcode (R108). -/
def unknown : Option Descriptor := none

/-- The matrix, row 0x (R107). -/
def row0 : List (Option Descriptor) := [
  cell .brk .imp 7, cell .ora .izx 6, unknown, cell .slo .izx 8,
  cell .nop .zp 3, cell .ora .zp 3, cell .asl .zp 5, cell .slo .zp 5,
  cell .php .imp 3, cell .ora .imm 2, cell .asl .acc 2, cell .anc .imm 2,
  cell .nop .abs 4, cell .ora .abs 4, cell .asl .abs 6, cell .slo .abs 6]

/-- The matrix, row 1x (R107). -/
def row1 : List (Option Descriptor) := [
  cell .bpl .rel 2, cell .ora .izy 5, unknown, cell .slo .izy 8,
  cell .nop .zpx 4, cell .ora .zpx 4, cell .asl .zpx 6, cell .slo .zpx 6,
  cell .clc .imp 2, cell .ora .aby 4, cell .nop .imp 2, cell .slo .aby 7,
  cell .nop .abx 4, cell .ora .abx 4, cell .asl .abx 7, cell .slo .abx 7]

/-- The matrix, row 2x (R107). -/
def row2 : List (Option Descriptor) := [
  cell .jsr .abs 6, cell .and .izx 6, unknown, cell .rla .izx 8,
  cell .bit .zp 3, cell .and .zp 3, cell .rol .zp 5, cell .rla .zp 5,
  cell .plp .imp 4, cell .and .imm 2, cell .rol .acc 2, cell .anc .imm 2,
  cell .bit .abs 4, cell .and .abs 4, cell .rol .abs 6, cell .rla .abs 6]

/-- The matrix, row 3x (R107). -/
def row3 : List (Option Descriptor) := [
  cell .bmi .rel 2, cell .and .izy 5, unknown, cell .rla .izy 8,
  cell .nop .zpx 4, cell .and .zpx 4, cell .rol .zpx 6, cell .rla .zpx 6,
  cell .sec .imp 2, cell .and .aby 4, cell .nop .imp 2, cell .rla .aby 7,
  cell .nop .abx 4, cell .and .abx 4, cell .rol .abx 7, cell .rla .abx 7]

/-- The matrix, row 4x (R107). -/
def row4 : List (Option Descriptor) := [
  cell .rti .imp 6, cell .eor .izx 6, unknown, cell .sre .izx 8,
  cell .nop .zp 3, cell .eor .zp 3, cell .lsr .zp 5, cell .sre .zp 5,
  cell .pha .imp 3, cell .eor .imm 2, cell .lsr .acc 2, cell .alr .imm 2,
  cell .jmp .abs 3, cell .eor .abs 4, cell .lsr .abs 6, cell .sre .abs 6]

/-- The matrix, row 5x (R107). -/
def row5 : List (Option Descriptor) := [
  cell .bvc .rel 2, cell .eor .izy 5, unknown, cell .sre .izy 8,
  cell .nop .zpx 4, cell .eor .zpx 4, cell .lsr .zpx 6, cell .sre .zpx 6,
  cell .cli .imp 2, cell .eor .aby 4, cell .nop .imp 2, cell .sre .aby 7,
  cell .nop .abx 4, cell .eor .abx 4, cell .lsr .abx 7, cell .sre .abx 7]

/-- The matrix, row 6x (R107). -/
def row6 : List (Option Descriptor) := [
  cell .rts .imp 6, cell .adc .izx 6, unknown, cell .rra .izx 8,
  cell .nop .zp 3, cell .adc .zp 3, cell .ror .zp 5, cell .rra .zp 5,
  cell .pla .imp 4, cell .adc .imm 2, cell .ror .acc 2, cell .arr .imm 2,
  cell .jmp .ind 5, cell .adc .abs 4, cell .ror .abs 6, cell .rra .abs 6]

/-- The matrix, row 7x (R107). -/
def row7 : List (Option Descriptor) := [
  cell .bvs .rel 2, cell .adc .izy 5, unknown, cell .rra .izy 8,
  cell .nop .zpx 4, cell .adc .zpx 4, cell .ror .zpx 6, cell .rra .zpx 6,
  cell .sei .imp 2, cell .adc .aby 4, cell .nop .imp 2, cell .rra .aby 7,
  cell .nop .abx 4, cell .adc .abx 4, cell .ror .abx 7, cell .rra .abx 7]

/-- The matrix, row 8x (R107). -/
def row8 : List (Option Descriptor) := [
  cell .nop .imm 2, cell .sta .izx 6, cell .nop .imm 2, cell .sax .izx 6,
  cell .sty .zp 3, cell .sta .zp 3, cell .stx .zp 3, cell .sax .zp 3,
  cell .dey .imp 2, cell .nop .imm 2, cell .txa .imp 2, unknown,
  cell .sty .abs 4, cell .sta .abs 4, cell .stx .abs 4, cell .sax .abs 4]

/-- The matrix, row 9x (R107). -/
def row9 : List (Option Descriptor) := [
  cell .bcc .rel 2, cell .sta .izy 6, unknown, unknown,
  cell .sty .zpx 4, cell .sta .zpx 4, cell .stx .zpy 4, cell .sax .zpy 4,
  cell .tya .imp 2, cell .sta .aby 5, cell .txs .imp 2, unknown,
  unknown, cell .sta .abx 5, unknown, unknown]

/-- The matrix, row Ax (R107). -/
def rowA : List (Option Descriptor) := [
  cell .ldy .imm 2, cell .lda .izx 6, cell .ldx .imm 2, cell .lax .izx 6,
  cell .ldy .zp 3, cell .lda .zp 3, cell .ldx .zp 3, cell .lax .zp 3,
  cell .tay .imp 2, cell .lda .imm 2, cell .tax .imp 2, unknown,
  cell .ldy .abs 4, cell .lda .abs 4, cell .ldx .abs 4, cell .lax .abs 4]

/-- The matrix, row Bx (R107). -/
def rowB : List (Option Descriptor) := [
  cell .bcs .rel 2, cell .lda .izy 5, unknown, cell .lax .izy 5,
  cell .ldy .zpx 4, cell .lda .zpx 4, cell .ldx .zpy 4, cell .lax .zpy 4,
  cell .clv .imp 2, cell .lda .aby 4, cell .tsx .imp 2, unknown,
  cell .ldy .abx 4, cell .lda .abx 4, cell .ldx .aby 4, cell .lax .aby 4]

/-- The matrix, row Cx (R107). -/
def rowC : List (Option Descriptor) := [
  cell .cpy .imm 2, cell .cmp .izx 6, cell .nop .imm 2, cell .dcp .izx 8,
  cell .cpy .zp 3, cell .cmp .zp 3, cell .dec .zp 5, cell .dcp .zp 5,
  cell .iny .imp 2, cell .cmp .imm 2, cell .dex .imp 2, cell .axs .imm 2,
  cell .cpy .abs 4, cell .cmp .abs 4, cell .dec .abs 6, cell .dcp .abs 6]

/-- The matrix, row Dx (R107). -/
def rowD : List (Option Descriptor) := [
  cell .bne .rel 2, cell .cmp .izy 5, unknown, cell .dcp .izy 8,
  cell .nop .zpx 4, cell .cmp .zpx 4, cell .dec .zpx 6, cell .dcp .zpx 6,
  cell .cld .imp 2, cell .cmp .aby 4, cell .nop .imp 2, cell .dcp .aby 7,
  cell .nop .abx 4, cell .cmp .abx 4, cell .dec .abx 7, cell .dcp .abx 7]

/-- The matrix, row Ex (R107). -/
def rowE : List (Option Descriptor) := [
  cell .cpx .imm 2, cell .sbc .izx 6, cell .nop .imm 2, cell .isb .izx 8,
  cell .cpx .zp 3, cell .sbc .zp 3, cell .inc .zp 5, cell .isb .zp 5,
  cell .inx .imp 2, cell .sbc .imm 2, cell .nop .imp 2, cell .sbc .imm 2,
  cell .cpx .abs 4, cell .sbc .abs 4, cell .inc .abs 6, cell .isb .abs 6]

/-- The matrix, row Fx (R107). -/
def rowF : List (Option Descriptor) := [
  cell .beq .rel 2, cell .sbc .izy 5, unknown, cell .isb .izy 8,
  cell .nop .zpx 4, cell .sbc .zpx 4, cell .inc .zpx 6, cell .isb .zpx 6,
  cell .sed .imp 2, cell .sbc .aby 4, cell .nop .imp 2, cell .isb .aby 7,
  cell .nop .abx 4, cell .sbc .abx 4, cell .inc .abx 7, cell .isb .abx 7]

/-- The matrix of R107. -/
def matrix : List (List (Option Descriptor)) :=
  [row0, row1, row2, row3, row4, row5, row6, row7,
   row8, row9, rowA, rowB, rowC, rowD, rowE, rowF]

/-- `OPTABLE` (R92): the descriptor of a byte value, none for an unknown opcode. -/
def optable (op : Byte) : Option Descriptor :=
  match matrix[op.toNat / 16]? with
  | none => none
  | some row =>
    match row[op.toNat % 16]? with
    | none => none
    | some c => c

/-- The instruction's opcode byte (R106, R107). -/
def Instr.opcode : Instr → Byte
  | .ldaImm _ => 0xA9#8
  | .ldaZp _ => 0xA5#8
  | .ldaZpx _ => 0xB5#8
  | .ldaAbs _ => 0xAD#8
  | .ldaAbx _ => 0xBD#8
  | .ldaAby _ => 0xB9#8
  | .ldaIzx _ => 0xA1#8
  | .ldaIzy _ => 0xB1#8
  | .ldxImm _ => 0xA2#8
  | .ldxZp _ => 0xA6#8
  | .ldxZpy _ => 0xB6#8
  | .ldxAbs _ => 0xAE#8
  | .ldxAby _ => 0xBE#8
  | .ldyImm _ => 0xA0#8
  | .ldyZp _ => 0xA4#8
  | .ldyZpx _ => 0xB4#8
  | .ldyAbs _ => 0xAC#8
  | .ldyAbx _ => 0xBC#8
  | .staZp _ => 0x85#8
  | .staZpx _ => 0x95#8
  | .staAbs _ => 0x8D#8
  | .staAbx _ => 0x9D#8
  | .staAby _ => 0x99#8
  | .staIzx _ => 0x81#8
  | .staIzy _ => 0x91#8
  | .stxZp _ => 0x86#8
  | .stxZpy _ => 0x96#8
  | .stxAbs _ => 0x8E#8
  | .styZp _ => 0x84#8
  | .styZpx _ => 0x94#8
  | .styAbs _ => 0x8C#8
  | .tax => 0xAA#8
  | .tay => 0xA8#8
  | .txa => 0x8A#8
  | .tya => 0x98#8
  | .tsx => 0xBA#8
  | .txs => 0x9A#8
  | .adcImm _ => 0x69#8
  | .adcZp _ => 0x65#8
  | .adcZpx _ => 0x75#8
  | .adcAbs _ => 0x6D#8
  | .adcAbx _ => 0x7D#8
  | .adcAby _ => 0x79#8
  | .adcIzx _ => 0x61#8
  | .adcIzy _ => 0x71#8
  | .sbcImm _ => 0xE9#8
  | .sbcZp _ => 0xE5#8
  | .sbcZpx _ => 0xF5#8
  | .sbcAbs _ => 0xED#8
  | .sbcAbx _ => 0xFD#8
  | .sbcAby _ => 0xF9#8
  | .sbcIzx _ => 0xE1#8
  | .sbcIzy _ => 0xF1#8
  | .andImm _ => 0x29#8
  | .andZp _ => 0x25#8
  | .andZpx _ => 0x35#8
  | .andAbs _ => 0x2D#8
  | .andAbx _ => 0x3D#8
  | .andAby _ => 0x39#8
  | .andIzx _ => 0x21#8
  | .andIzy _ => 0x31#8
  | .oraImm _ => 0x09#8
  | .oraZp _ => 0x05#8
  | .oraZpx _ => 0x15#8
  | .oraAbs _ => 0x0D#8
  | .oraAbx _ => 0x1D#8
  | .oraAby _ => 0x19#8
  | .oraIzx _ => 0x01#8
  | .oraIzy _ => 0x11#8
  | .eorImm _ => 0x49#8
  | .eorZp _ => 0x45#8
  | .eorZpx _ => 0x55#8
  | .eorAbs _ => 0x4D#8
  | .eorAbx _ => 0x5D#8
  | .eorAby _ => 0x59#8
  | .eorIzx _ => 0x41#8
  | .eorIzy _ => 0x51#8
  | .cmpImm _ => 0xC9#8
  | .cmpZp _ => 0xC5#8
  | .cmpZpx _ => 0xD5#8
  | .cmpAbs _ => 0xCD#8
  | .cmpAbx _ => 0xDD#8
  | .cmpAby _ => 0xD9#8
  | .cmpIzx _ => 0xC1#8
  | .cmpIzy _ => 0xD1#8
  | .cpxImm _ => 0xE0#8
  | .cpxZp _ => 0xE4#8
  | .cpxAbs _ => 0xEC#8
  | .cpyImm _ => 0xC0#8
  | .cpyZp _ => 0xC4#8
  | .cpyAbs _ => 0xCC#8
  | .bitZp _ => 0x24#8
  | .bitAbs _ => 0x2C#8
  | .incZp _ => 0xE6#8
  | .incZpx _ => 0xF6#8
  | .incAbs _ => 0xEE#8
  | .incAbx _ => 0xFE#8
  | .decZp _ => 0xC6#8
  | .decZpx _ => 0xD6#8
  | .decAbs _ => 0xCE#8
  | .decAbx _ => 0xDE#8
  | .inx => 0xE8#8
  | .iny => 0xC8#8
  | .dex => 0xCA#8
  | .dey => 0x88#8
  | .aslAcc => 0x0A#8
  | .aslZp _ => 0x06#8
  | .aslZpx _ => 0x16#8
  | .aslAbs _ => 0x0E#8
  | .aslAbx _ => 0x1E#8
  | .lsrAcc => 0x4A#8
  | .lsrZp _ => 0x46#8
  | .lsrZpx _ => 0x56#8
  | .lsrAbs _ => 0x4E#8
  | .lsrAbx _ => 0x5E#8
  | .rolAcc => 0x2A#8
  | .rolZp _ => 0x26#8
  | .rolZpx _ => 0x36#8
  | .rolAbs _ => 0x2E#8
  | .rolAbx _ => 0x3E#8
  | .rorAcc => 0x6A#8
  | .rorZp _ => 0x66#8
  | .rorZpx _ => 0x76#8
  | .rorAbs _ => 0x6E#8
  | .rorAbx _ => 0x7E#8
  | .jmpAbs _ => 0x4C#8
  | .jmpInd _ => 0x6C#8
  | .jsr _ => 0x20#8
  | .rts => 0x60#8
  | .rti => 0x40#8
  | .bcc _ => 0x90#8
  | .bcs _ => 0xB0#8
  | .beq _ => 0xF0#8
  | .bne _ => 0xD0#8
  | .bmi _ => 0x30#8
  | .bpl _ => 0x10#8
  | .bvc _ => 0x50#8
  | .bvs _ => 0x70#8
  | .brk => 0x00#8
  | .nop => 0xEA#8
  | .pha => 0x48#8
  | .pla => 0x68#8
  | .php => 0x08#8
  | .plp => 0x28#8
  | .clc => 0x18#8
  | .sec => 0x38#8
  | .cli => 0x58#8
  | .sei => 0x78#8
  | .cld => 0xD8#8
  | .sed => 0xF8#8
  | .clv => 0xB8#8
  | .sloZp _ => 0x07#8
  | .sloZpx _ => 0x17#8
  | .sloAbs _ => 0x0F#8
  | .sloAbx _ => 0x1F#8
  | .sloAby _ => 0x1B#8
  | .sloIzx _ => 0x03#8
  | .sloIzy _ => 0x13#8
  | .rlaZp _ => 0x27#8
  | .rlaZpx _ => 0x37#8
  | .rlaAbs _ => 0x2F#8
  | .rlaAbx _ => 0x3F#8
  | .rlaAby _ => 0x3B#8
  | .rlaIzx _ => 0x23#8
  | .rlaIzy _ => 0x33#8
  | .sreZp _ => 0x47#8
  | .sreZpx _ => 0x57#8
  | .sreAbs _ => 0x4F#8
  | .sreAbx _ => 0x5F#8
  | .sreAby _ => 0x5B#8
  | .sreIzx _ => 0x43#8
  | .sreIzy _ => 0x53#8
  | .rraZp _ => 0x67#8
  | .rraZpx _ => 0x77#8
  | .rraAbs _ => 0x6F#8
  | .rraAbx _ => 0x7F#8
  | .rraAby _ => 0x7B#8
  | .rraIzx _ => 0x63#8
  | .rraIzy _ => 0x73#8
  | .saxZp _ => 0x87#8
  | .saxZpy _ => 0x97#8
  | .saxAbs _ => 0x8F#8
  | .saxIzx _ => 0x83#8
  | .laxZp _ => 0xA7#8
  | .laxZpy _ => 0xB7#8
  | .laxAbs _ => 0xAF#8
  | .laxAby _ => 0xBF#8
  | .laxIzx _ => 0xA3#8
  | .laxIzy _ => 0xB3#8
  | .dcpZp _ => 0xC7#8
  | .dcpZpx _ => 0xD7#8
  | .dcpAbs _ => 0xCF#8
  | .dcpAbx _ => 0xDF#8
  | .dcpAby _ => 0xDB#8
  | .dcpIzx _ => 0xC3#8
  | .dcpIzy _ => 0xD3#8
  | .isbZp _ => 0xE7#8
  | .isbZpx _ => 0xF7#8
  | .isbAbs _ => 0xEF#8
  | .isbAbx _ => 0xFF#8
  | .isbAby _ => 0xFB#8
  | .isbIzx _ => 0xE3#8
  | .isbIzy _ => 0xF3#8
  | .ancImm0B _ => 0x0B#8
  | .ancImm2B _ => 0x2B#8
  | .alrImm _ => 0x4B#8
  | .arrImm _ => 0x6B#8
  | .axsImm _ => 0xCB#8
  | .sbcImmEB _ => 0xEB#8
  | .nop1A => 0x1A#8
  | .nop3A => 0x3A#8
  | .nop5A => 0x5A#8
  | .nop7A => 0x7A#8
  | .nopDA => 0xDA#8
  | .nopFA => 0xFA#8
  | .nopImm80 _ => 0x80#8
  | .nopImm82 _ => 0x82#8
  | .nopImm89 _ => 0x89#8
  | .nopImmC2 _ => 0xC2#8
  | .nopImmE2 _ => 0xE2#8
  | .nopZp04 _ => 0x04#8
  | .nopZp44 _ => 0x44#8
  | .nopZp64 _ => 0x64#8
  | .nopZpx14 _ => 0x14#8
  | .nopZpx34 _ => 0x34#8
  | .nopZpx54 _ => 0x54#8
  | .nopZpx74 _ => 0x74#8
  | .nopZpxD4 _ => 0xD4#8
  | .nopZpxF4 _ => 0xF4#8
  | .nopAbs0C _ => 0x0C#8
  | .nopAbx1C _ => 0x1C#8
  | .nopAbx3C _ => 0x3C#8
  | .nopAbx5C _ => 0x5C#8
  | .nopAbx7C _ => 0x7C#8
  | .nopAbxDC _ => 0xDC#8
  | .nopAbxFC _ => 0xFC#8

/-- The instructions of opcodes 00 to 0F; `b` is byte 1, `w` the address in bytes 1 and 2 (R91). -/
def instrRow0 (low : Nat) (b : Byte) (w : Word) : Option Instr :=
  match low with
  | 0x0 => some .brk
  | 0x1 => some (.oraIzx b)
  | 0x3 => some (.sloIzx b)
  | 0x4 => some (.nopZp04 b)
  | 0x5 => some (.oraZp b)
  | 0x6 => some (.aslZp b)
  | 0x7 => some (.sloZp b)
  | 0x8 => some .php
  | 0x9 => some (.oraImm b)
  | 0xA => some .aslAcc
  | 0xB => some (.ancImm0B b)
  | 0xC => some (.nopAbs0C w)
  | 0xD => some (.oraAbs w)
  | 0xE => some (.aslAbs w)
  | 0xF => some (.sloAbs w)
  | _ => none

/-- The instructions of opcodes 10 to 1F; `b` is byte 1, `w` the address in bytes 1 and 2 (R91). -/
def instrRow1 (low : Nat) (b : Byte) (w : Word) : Option Instr :=
  match low with
  | 0x0 => some (.bpl b)
  | 0x1 => some (.oraIzy b)
  | 0x3 => some (.sloIzy b)
  | 0x4 => some (.nopZpx14 b)
  | 0x5 => some (.oraZpx b)
  | 0x6 => some (.aslZpx b)
  | 0x7 => some (.sloZpx b)
  | 0x8 => some .clc
  | 0x9 => some (.oraAby w)
  | 0xA => some .nop1A
  | 0xB => some (.sloAby w)
  | 0xC => some (.nopAbx1C w)
  | 0xD => some (.oraAbx w)
  | 0xE => some (.aslAbx w)
  | 0xF => some (.sloAbx w)
  | _ => none

/-- The instructions of opcodes 20 to 2F; `b` is byte 1, `w` the address in bytes 1 and 2 (R91). -/
def instrRow2 (low : Nat) (b : Byte) (w : Word) : Option Instr :=
  match low with
  | 0x0 => some (.jsr w)
  | 0x1 => some (.andIzx b)
  | 0x3 => some (.rlaIzx b)
  | 0x4 => some (.bitZp b)
  | 0x5 => some (.andZp b)
  | 0x6 => some (.rolZp b)
  | 0x7 => some (.rlaZp b)
  | 0x8 => some .plp
  | 0x9 => some (.andImm b)
  | 0xA => some .rolAcc
  | 0xB => some (.ancImm2B b)
  | 0xC => some (.bitAbs w)
  | 0xD => some (.andAbs w)
  | 0xE => some (.rolAbs w)
  | 0xF => some (.rlaAbs w)
  | _ => none

/-- The instructions of opcodes 30 to 3F; `b` is byte 1, `w` the address in bytes 1 and 2 (R91). -/
def instrRow3 (low : Nat) (b : Byte) (w : Word) : Option Instr :=
  match low with
  | 0x0 => some (.bmi b)
  | 0x1 => some (.andIzy b)
  | 0x3 => some (.rlaIzy b)
  | 0x4 => some (.nopZpx34 b)
  | 0x5 => some (.andZpx b)
  | 0x6 => some (.rolZpx b)
  | 0x7 => some (.rlaZpx b)
  | 0x8 => some .sec
  | 0x9 => some (.andAby w)
  | 0xA => some .nop3A
  | 0xB => some (.rlaAby w)
  | 0xC => some (.nopAbx3C w)
  | 0xD => some (.andAbx w)
  | 0xE => some (.rolAbx w)
  | 0xF => some (.rlaAbx w)
  | _ => none

/-- The instructions of opcodes 40 to 4F; `b` is byte 1, `w` the address in bytes 1 and 2 (R91). -/
def instrRow4 (low : Nat) (b : Byte) (w : Word) : Option Instr :=
  match low with
  | 0x0 => some .rti
  | 0x1 => some (.eorIzx b)
  | 0x3 => some (.sreIzx b)
  | 0x4 => some (.nopZp44 b)
  | 0x5 => some (.eorZp b)
  | 0x6 => some (.lsrZp b)
  | 0x7 => some (.sreZp b)
  | 0x8 => some .pha
  | 0x9 => some (.eorImm b)
  | 0xA => some .lsrAcc
  | 0xB => some (.alrImm b)
  | 0xC => some (.jmpAbs w)
  | 0xD => some (.eorAbs w)
  | 0xE => some (.lsrAbs w)
  | 0xF => some (.sreAbs w)
  | _ => none

/-- The instructions of opcodes 50 to 5F; `b` is byte 1, `w` the address in bytes 1 and 2 (R91). -/
def instrRow5 (low : Nat) (b : Byte) (w : Word) : Option Instr :=
  match low with
  | 0x0 => some (.bvc b)
  | 0x1 => some (.eorIzy b)
  | 0x3 => some (.sreIzy b)
  | 0x4 => some (.nopZpx54 b)
  | 0x5 => some (.eorZpx b)
  | 0x6 => some (.lsrZpx b)
  | 0x7 => some (.sreZpx b)
  | 0x8 => some .cli
  | 0x9 => some (.eorAby w)
  | 0xA => some .nop5A
  | 0xB => some (.sreAby w)
  | 0xC => some (.nopAbx5C w)
  | 0xD => some (.eorAbx w)
  | 0xE => some (.lsrAbx w)
  | 0xF => some (.sreAbx w)
  | _ => none

/-- The instructions of opcodes 60 to 6F; `b` is byte 1, `w` the address in bytes 1 and 2 (R91). -/
def instrRow6 (low : Nat) (b : Byte) (w : Word) : Option Instr :=
  match low with
  | 0x0 => some .rts
  | 0x1 => some (.adcIzx b)
  | 0x3 => some (.rraIzx b)
  | 0x4 => some (.nopZp64 b)
  | 0x5 => some (.adcZp b)
  | 0x6 => some (.rorZp b)
  | 0x7 => some (.rraZp b)
  | 0x8 => some .pla
  | 0x9 => some (.adcImm b)
  | 0xA => some .rorAcc
  | 0xB => some (.arrImm b)
  | 0xC => some (.jmpInd w)
  | 0xD => some (.adcAbs w)
  | 0xE => some (.rorAbs w)
  | 0xF => some (.rraAbs w)
  | _ => none

/-- The instructions of opcodes 70 to 7F; `b` is byte 1, `w` the address in bytes 1 and 2 (R91). -/
def instrRow7 (low : Nat) (b : Byte) (w : Word) : Option Instr :=
  match low with
  | 0x0 => some (.bvs b)
  | 0x1 => some (.adcIzy b)
  | 0x3 => some (.rraIzy b)
  | 0x4 => some (.nopZpx74 b)
  | 0x5 => some (.adcZpx b)
  | 0x6 => some (.rorZpx b)
  | 0x7 => some (.rraZpx b)
  | 0x8 => some .sei
  | 0x9 => some (.adcAby w)
  | 0xA => some .nop7A
  | 0xB => some (.rraAby w)
  | 0xC => some (.nopAbx7C w)
  | 0xD => some (.adcAbx w)
  | 0xE => some (.rorAbx w)
  | 0xF => some (.rraAbx w)
  | _ => none

/-- The instructions of opcodes 80 to 8F; `b` is byte 1, `w` the address in bytes 1 and 2 (R91). -/
def instrRow8 (low : Nat) (b : Byte) (w : Word) : Option Instr :=
  match low with
  | 0x0 => some (.nopImm80 b)
  | 0x1 => some (.staIzx b)
  | 0x2 => some (.nopImm82 b)
  | 0x3 => some (.saxIzx b)
  | 0x4 => some (.styZp b)
  | 0x5 => some (.staZp b)
  | 0x6 => some (.stxZp b)
  | 0x7 => some (.saxZp b)
  | 0x8 => some .dey
  | 0x9 => some (.nopImm89 b)
  | 0xA => some .txa
  | 0xC => some (.styAbs w)
  | 0xD => some (.staAbs w)
  | 0xE => some (.stxAbs w)
  | 0xF => some (.saxAbs w)
  | _ => none

/-- The instructions of opcodes 90 to 9F; `b` is byte 1, `w` the address in bytes 1 and 2 (R91). -/
def instrRow9 (low : Nat) (b : Byte) (w : Word) : Option Instr :=
  match low with
  | 0x0 => some (.bcc b)
  | 0x1 => some (.staIzy b)
  | 0x4 => some (.styZpx b)
  | 0x5 => some (.staZpx b)
  | 0x6 => some (.stxZpy b)
  | 0x7 => some (.saxZpy b)
  | 0x8 => some .tya
  | 0x9 => some (.staAby w)
  | 0xA => some .txs
  | 0xD => some (.staAbx w)
  | _ => none

/-- The instructions of opcodes A0 to AF; `b` is byte 1, `w` the address in bytes 1 and 2 (R91). -/
def instrRowA (low : Nat) (b : Byte) (w : Word) : Option Instr :=
  match low with
  | 0x0 => some (.ldyImm b)
  | 0x1 => some (.ldaIzx b)
  | 0x2 => some (.ldxImm b)
  | 0x3 => some (.laxIzx b)
  | 0x4 => some (.ldyZp b)
  | 0x5 => some (.ldaZp b)
  | 0x6 => some (.ldxZp b)
  | 0x7 => some (.laxZp b)
  | 0x8 => some .tay
  | 0x9 => some (.ldaImm b)
  | 0xA => some .tax
  | 0xC => some (.ldyAbs w)
  | 0xD => some (.ldaAbs w)
  | 0xE => some (.ldxAbs w)
  | 0xF => some (.laxAbs w)
  | _ => none

/-- The instructions of opcodes B0 to BF; `b` is byte 1, `w` the address in bytes 1 and 2 (R91). -/
def instrRowB (low : Nat) (b : Byte) (w : Word) : Option Instr :=
  match low with
  | 0x0 => some (.bcs b)
  | 0x1 => some (.ldaIzy b)
  | 0x3 => some (.laxIzy b)
  | 0x4 => some (.ldyZpx b)
  | 0x5 => some (.ldaZpx b)
  | 0x6 => some (.ldxZpy b)
  | 0x7 => some (.laxZpy b)
  | 0x8 => some .clv
  | 0x9 => some (.ldaAby w)
  | 0xA => some .tsx
  | 0xC => some (.ldyAbx w)
  | 0xD => some (.ldaAbx w)
  | 0xE => some (.ldxAby w)
  | 0xF => some (.laxAby w)
  | _ => none

/-- The instructions of opcodes C0 to CF; `b` is byte 1, `w` the address in bytes 1 and 2 (R91). -/
def instrRowC (low : Nat) (b : Byte) (w : Word) : Option Instr :=
  match low with
  | 0x0 => some (.cpyImm b)
  | 0x1 => some (.cmpIzx b)
  | 0x2 => some (.nopImmC2 b)
  | 0x3 => some (.dcpIzx b)
  | 0x4 => some (.cpyZp b)
  | 0x5 => some (.cmpZp b)
  | 0x6 => some (.decZp b)
  | 0x7 => some (.dcpZp b)
  | 0x8 => some .iny
  | 0x9 => some (.cmpImm b)
  | 0xA => some .dex
  | 0xB => some (.axsImm b)
  | 0xC => some (.cpyAbs w)
  | 0xD => some (.cmpAbs w)
  | 0xE => some (.decAbs w)
  | 0xF => some (.dcpAbs w)
  | _ => none

/-- The instructions of opcodes D0 to DF; `b` is byte 1, `w` the address in bytes 1 and 2 (R91). -/
def instrRowD (low : Nat) (b : Byte) (w : Word) : Option Instr :=
  match low with
  | 0x0 => some (.bne b)
  | 0x1 => some (.cmpIzy b)
  | 0x3 => some (.dcpIzy b)
  | 0x4 => some (.nopZpxD4 b)
  | 0x5 => some (.cmpZpx b)
  | 0x6 => some (.decZpx b)
  | 0x7 => some (.dcpZpx b)
  | 0x8 => some .cld
  | 0x9 => some (.cmpAby w)
  | 0xA => some .nopDA
  | 0xB => some (.dcpAby w)
  | 0xC => some (.nopAbxDC w)
  | 0xD => some (.cmpAbx w)
  | 0xE => some (.decAbx w)
  | 0xF => some (.dcpAbx w)
  | _ => none

/-- The instructions of opcodes E0 to EF; `b` is byte 1, `w` the address in bytes 1 and 2 (R91). -/
def instrRowE (low : Nat) (b : Byte) (w : Word) : Option Instr :=
  match low with
  | 0x0 => some (.cpxImm b)
  | 0x1 => some (.sbcIzx b)
  | 0x2 => some (.nopImmE2 b)
  | 0x3 => some (.isbIzx b)
  | 0x4 => some (.cpxZp b)
  | 0x5 => some (.sbcZp b)
  | 0x6 => some (.incZp b)
  | 0x7 => some (.isbZp b)
  | 0x8 => some .inx
  | 0x9 => some (.sbcImm b)
  | 0xA => some .nop
  | 0xB => some (.sbcImmEB b)
  | 0xC => some (.cpxAbs w)
  | 0xD => some (.sbcAbs w)
  | 0xE => some (.incAbs w)
  | 0xF => some (.isbAbs w)
  | _ => none

/-- The instructions of opcodes F0 to FF; `b` is byte 1, `w` the address in bytes 1 and 2 (R91). -/
def instrRowF (low : Nat) (b : Byte) (w : Word) : Option Instr :=
  match low with
  | 0x0 => some (.beq b)
  | 0x1 => some (.sbcIzy b)
  | 0x3 => some (.isbIzy b)
  | 0x4 => some (.nopZpxF4 b)
  | 0x5 => some (.sbcZpx b)
  | 0x6 => some (.incZpx b)
  | 0x7 => some (.isbZpx b)
  | 0x8 => some .sed
  | 0x9 => some (.sbcAby w)
  | 0xA => some .nopFA
  | 0xB => some (.isbAby w)
  | 0xC => some (.nopAbxFC w)
  | 0xD => some (.sbcAbx w)
  | 0xE => some (.incAbx w)
  | 0xF => some (.isbAbx w)
  | _ => none

/-- The instruction with opcode `op` and operand bytes `b1` and `b2`; a byte the format lacks is not looked at. -/
def instrOf (op b1 b2 : Byte) : Option Instr :=
  let low := op.toNat % 16
  match op.toNat / 16 with
  | 0x0 => instrRow0 low b1 (cat b2 b1)
  | 0x1 => instrRow1 low b1 (cat b2 b1)
  | 0x2 => instrRow2 low b1 (cat b2 b1)
  | 0x3 => instrRow3 low b1 (cat b2 b1)
  | 0x4 => instrRow4 low b1 (cat b2 b1)
  | 0x5 => instrRow5 low b1 (cat b2 b1)
  | 0x6 => instrRow6 low b1 (cat b2 b1)
  | 0x7 => instrRow7 low b1 (cat b2 b1)
  | 0x8 => instrRow8 low b1 (cat b2 b1)
  | 0x9 => instrRow9 low b1 (cat b2 b1)
  | 0xA => instrRowA low b1 (cat b2 b1)
  | 0xB => instrRowB low b1 (cat b2 b1)
  | 0xC => instrRowC low b1 (cat b2 b1)
  | 0xD => instrRowD low b1 (cat b2 b1)
  | 0xE => instrRowE low b1 (cat b2 b1)
  | 0xF => instrRowF low b1 (cat b2 b1)
  | _ => none

/-- Why bytes are no instruction. -/
inductive DecodeError where
  /-- The byte has no descriptor (R108). -/
  | unknownOpcode (byte : Byte)
  /-- The bytes end before the instruction does. -/
  | truncated
deriving DecidableEq, Repr

/-- The instruction with opcode `op` and operand bytes `b1` and `b2`, and the bytes after it. -/
def decoded (op b1 b2 : Byte) (rest : List Byte) : Except DecodeError (Instr × List Byte) :=
  match instrOf op b1 b2 with
  | some i => .ok (i, rest)
  | none => .error (.unknownOpcode op)

/-- The decoder (R90 to R92): byte 0 gives the format and so the length; the instruction and the bytes after it. -/
def decode : List Byte → Except DecodeError (Instr × List Byte)
  | [] => .error .truncated
  | op :: rest =>
    match optable op with
    | none => .error (.unknownOpcode op)
    | some d =>
      match d.format.operandBytes, rest with
      | 0, rest => decoded op 0#8 0#8 rest
      | 1, b1 :: rest => decoded op b1 0#8 rest
      | 2, b1 :: b2 :: rest => decoded op b1 b2 rest
      | _, _ => .error .truncated

/-- The encoder (R91): the opcode, then the operand bytes, an address low byte first. -/
def encode (i : Instr) : List Byte := i.opcode :: i.operand.bytes

/-- The first three bytes of an instruction whose low `nbits` bits are `w` and whose other bits are 0: byte `k` is bits
`8k + 7` to `8k`. -/
def tableBytes (nbits w : Nat) : List Byte :=
  let w := w % 2 ^ nbits
  [BitVec.ofNat 8 w, BitVec.ofNat 8 (w / 256), BitVec.ofNat 8 (w / 65536)]

/-- The instruction the decoder reads from a word numbered as spec/opcode_table.json numbers it. -/
def decodeTableWord (nbits w : Nat) : Option Instr :=
  match decode (tableBytes nbits w) with
  | .ok (i, _) => some i
  | .error _ => none

end Sys2Proof
end

