-- ==== Sys2Proof/Machine/Flags.lean ====
section
/-! DEFINITION. The status register's flags and every flag computation (10_state.md R15 to R18, 41_arithmetic_logic.md,
42_shift_rotate.md, 45_undocumented.md R251), as functions of bytes. -/

namespace Sys2Proof.Machine

/-- The eight flags of `P` in the order the spec lists them (R15). -/
inductive Flag where
  | c
  | z
  | i
  | d
  | b
  | u
  | v
  | n
deriving DecidableEq, Repr

/-- The flag's bit number in `P` (R15). -/
def Flag.bit : Flag → Nat
  | .c => 0
  | .z => 1
  | .i => 2
  | .d => 3
  | .b => 4
  | .u => 5
  | .v => 6
  | .n => 7

/-- The flag's mask in `P` (R15). -/
def Flag.mask (f : Flag) : Byte := 1#8 <<< f.bit

/-- `P.f`. -/
def flag (p : Byte) (f : Flag) : Bool := p.getLsbD f.bit

/-- `P` after `P.f <- on`; every other bit keeps its value (R16). -/
def setFlag (p : Byte) (f : Flag) (on : Bool) : Byte := if on then p ||| f.mask else p &&& ~~~f.mask

/-- `P` after `SetZN(v)` (R18). -/
def setZN (p v : Byte) : Byte := setFlag (setFlag p .z (v == 0#8)) .n (v.getLsbD 7)

/-- The 9-bit sum of `AddWithCarry` (R151). -/
def carrySum (a m : Byte) (c : Bool) : Nat := a.toNat + m.toNat + c.toNat

/-- The new accumulator of `AddWithCarry(m)` (R151): `sum[7:0]`. -/
def addResult (a m : Byte) (c : Bool) : Byte := BitVec.ofNat 8 (carrySum a m c)

/-- `P` after `AddWithCarry(m)` with accumulator `a` (R151): `C`, `V`, then `Z` and `N` from the result. -/
def addFlags (a m p : Byte) : Byte :=
  let r := addResult a m (flag p .c)
  let p := setFlag p .c (decide (0xFF < carrySum a m (flag p .c)))
  let p := setFlag p .v ((a ^^^ r) &&& (m ^^^ r) &&& 0x80#8 != 0#8)
  setZN p r

/-- `P` after `Compare(r, m)` (R156). -/
def compareFlags (r m p : Byte) : Byte := setZN (setFlag p .c (decide (m.toNat ≤ r.toNat))) (r - m)

/-- `P` after BIT of `m` with accumulator `a` (R160): `Z` from the AND, `N` and `V` from the operand. -/
def bitFlags (a m p : Byte) : Byte :=
  setFlag (setFlag (setFlag p .z (a &&& m == 0#8)) .n (m.getLsbD 7)) .v (m.getLsbD 6)

/-- `P` as PLP and RTI restore it from the popped byte (R17): Break cleared, Break2 set. -/
def restoredStatus (popped : Byte) : Byte := (popped &&& ~~~0x10#8) ||| 0x20#8

/-- `P` as PHP pushes it (R17, R222): Break and Break2 set. -/
def phpStatus (p : Byte) : Byte := p ||| 0x30#8

/-- `P` as NMI entry pushes it (R17, R327): Break clear, Break2 set. -/
def nmiStatus (p : Byte) : Byte := (p &&& ~~~0x10#8) ||| 0x20#8

/-- A shift's core: the value and the old carry to the result and the new carry (R180). -/
abbrev ShiftCore := Byte → Bool → Byte × Bool

/-- ASL's core (R181). -/
def aslCore : ShiftCore := fun v _ => (v <<< 1, v.getLsbD 7)

/-- LSR's core (R182). -/
def lsrCore : ShiftCore := fun v _ => (v >>> 1, v.getLsbD 0)

/-- ROL's core (R183): the prior carry enters at bit 0. -/
def rolCore : ShiftCore := fun v c => ((v <<< 1) ||| (if c then 0x01#8 else 0x00#8), v.getLsbD 7)

/-- ROR's core (R184): the prior carry enters at bit 7. -/
def rorCore : ShiftCore := fun v c => ((v >>> 1) ||| (if c then 0x80#8 else 0x00#8), v.getLsbD 0)

/-- `P` after a shift with result `r` and carry out `c` (R180). -/
def shiftFlags (r : Byte) (c : Bool) (p : Byte) : Byte := setZN (setFlag p .c c) r

/-- `P` after ANC with result `r` (R249): `Z`, `N`, and `C` a copy of `N`. -/
def ancFlags (r p : Byte) : Byte := setFlag (setZN p r) .c (flag (setZN p r) .n)

/-- `P` after ARR with result `r` (R251): `Z`, `N`, `C <- A[6]`, `V <- A[6] ^ A[5]`. -/
def arrFlags (r p : Byte) : Byte :=
  setFlag (setFlag (setZN p r) .c (r.getLsbD 6)) .v (r.getLsbD 6 ^^ r.getLsbD 5)

end Sys2Proof.Machine
end

