-- ==== Sys2Proof/Machine/Params.lean ====
section
/-! DEFINITION. The named constants of 00_scope.md R6. -/

namespace Sys2Proof.Params

/-- Bytes of `ram` (R6, R21). -/
def ramSize : Nat := 0x0800

/-- Bytes of `vram` (R6, R24). -/
def vramSize : Nat := 0x0800

/-- Bytes of `palette` (R6, R25). -/
def paletteSize : Nat := 32

/-- Bytes of `oam` (R6, R26). -/
def oamSize : Nat := 256

/-- The stack page begins here (R6, R13). -/
def stackBase : Word := 0x0100#16

/-- Address of the low byte of the reset vector (R6, R328). -/
def resetVector : Word := 0xFFFC#16

/-- Address of the low byte of the NMI vector (R6, R328). -/
def nmiVector : Word := 0xFFFA#16

/-- PPU cycles for one CPU cycle (R6, R127). -/
def ppuCyclesPerCpuCycle : Nat := 3

/-- PPU cycles of one scanline (R6, R289). -/
def cyclesPerScanline : Nat := 341

/-- The scanline at which vblank begins (R6, R289). -/
def vblankScanline : Nat := 241

/-- Scanlines of one frame (R6, R289). -/
def scanlinesPerFrame : Nat := 262

/-- CPU cycles the PPU is ticked for an NMI entry (R6, R327). -/
def nmiEntryCycles : Nat := 0

end Sys2Proof.Params
end

