-- ==== Sys2Proof/Config.lean ====
section
/-! DEFINITION. The configuration of one NES-CORE (00_scope.md R5): the cartridge. The numeric constants of R6 stand
in Machine/Params.lean. No value is left free: the spec states every one. -/

namespace Sys2Proof

/-- The Mirroring selector (R5). -/
inductive Mirroring where
  | horizontal
  | vertical
  | fourScreen
deriving DecidableEq, Repr

/-- The two legal lengths of the program image: one 16 KB bank or 32 KB (R5, D23). -/
inductive PrgSize where
  | kb16
  | kb32
deriving DecidableEq, Repr

/-- The number of bytes of the program image (R5). -/
def PrgSize.bytes : PrgSize → Nat
  | .kb16 => 0x4000
  | .kb32 => 0x8000

/-- What the cartridge loader supplies: `PRG_ROM`, `CHR_ROM`, `MIRRORING` (R5). No step changes it (R22, R23). -/
structure Cartridge where
  /-- The length of `PRG_ROM`. -/
  prgSize : PrgSize
  /-- `PRG_ROM` by image index. -/
  prg : Memory
  /-- `CHR_ROM` by image index. -/
  chr : Memory
  /-- `MIRRORING`. -/
  mirroring : Mirroring
deriving DecidableEq, Repr

/-- The cartridge of `State.reset`: a 16 KB program image and a character image of 0x00 bytes, Horizontal.
DESIGN CHOICE (log 3): the spec leaves the cartridge to the host, and no program is put into it. -/
def Cartridge.blank : Cartridge := ⟨.kb16, [], [], .horizontal⟩

/-- The images have the canonical form and the legal lengths (R5: `CHR_ROM` has 0x2000 bytes). -/
abbrev Cartridge.wf (c : Cartridge) : Prop :=
  c.prg.wf ∧ c.prg.within c.prgSize.bytes ∧ c.chr.wf ∧ c.chr.within 0x2000

end Sys2Proof
end

