-- ==== Sys2Proof/Machine/Rom.lean ====
section
/-! DEFINITION. Reading the two read-only images of the cartridge (20_memory.md R55, 50_ppu.md R282). -/

namespace Sys2Proof

/-- The image index CPU address `addr` of 0x8000 to 0xFFFF reads (R55): one bank is seen twice. -/
def Cartridge.prgIndex (c : Cartridge) (addr : Word) : Nat :=
  let i := addr.toNat - 0x8000
  if c.prgSize = .kb16 ∧ 0x4000 ≤ i then i % 0x4000 else i

/-- `PrgRead(addr)` (R55). -/
def Cartridge.prgRead (c : Cartridge) (addr : Word) : Byte := c.prg.read (c.prgIndex addr)

/-- The 16-bit vector whose low byte is at `addr`, both bytes in the program image (R58, R328, R351). -/
def Cartridge.vector (c : Cartridge) (addr : Word) : Word := cat (c.prgRead (addr + 1#16)) (c.prgRead addr)

/-- `CHR_ROM[a]` for a PPU address `a` (R282). -/
def Cartridge.chrRead (c : Cartridge) (a : Word) : Byte := c.chr.read a.toNat

end Sys2Proof
end

