-- ==== Sys2Proof/Machine/State.lean ====
section
/-! DEFINITION. The state of NES-CORE (10_state.md), the reasons a step can stop, and reset (70_reset_and_hazards.md R350). -/

namespace Sys2Proof.Machine

/-- The two read-only memories whose rejected writes are reported (R20, R57). -/
inductive RomSpace where
  | prg
  | chr
deriving DecidableEq, Repr

/-- The first rejected write: space, address and data (R20). -/
structure Violation where
  space : RomSpace
  addr : Word
  data : Byte
deriving DecidableEq, Repr

/-- `report`, the read-only-violation record (R20). -/
structure Report where
  count : Nat
  first : Option Violation
deriving DecidableEq, Repr

/-- `run`, the run status (R19). The fatal faults of R320 are values of it, so a step that raises one answers the
state the spec describes (log 1). -/
inductive RunStatus where
  /-- Steps may be taken. -/
  | running
  /-- The BRK opcode was fetched; the only successful end (R205). -/
  | haltedBrk
  /-- A byte with no descriptor was fetched from `addr` (R321). -/
  | unknownOpcode (byte : Byte) (addr : Word)
  /-- A mode without an effective address was used as one; unreachable (R322). -/
  | contractViolation
  /-- A nametable index outside the 2 KB of `vram` under FourScreen (R325). -/
  | vramRange (index : Nat)
deriving DecidableEq, Repr

/-- A write latch: which byte the next write to a two-byte port supplies (R32, R34). -/
inductive Latch where
  | first
  | second
deriving DecidableEq, Repr

/-- The PPU's registers, counters and memories (R24 to R38). -/
structure Ppu where
  /-- Control (R27). -/
  ctrl : Byte
  /-- Mask (R28). -/
  mask : Byte
  /-- Status (R29). -/
  status : Byte
  /-- The OAM pointer (R30). -/
  oamAddr : Byte
  /-- The Address register (R31). -/
  addr : Word
  /-- The Address write latch (R32). -/
  addrLatch : Latch
  /-- Scroll, first byte (R33). -/
  scrollX : Byte
  /-- Scroll, second byte (R33). -/
  scrollY : Byte
  /-- The Scroll write latch (R34). -/
  scrollLatch : Latch
  /-- The data-port read buffer (R35). -/
  readBuffer : Byte
  /-- The scanline counter (R36). -/
  scanLine : Nat
  /-- PPU cycles within the scanline (R37). -/
  cycleCounter : Nat
  /-- The NMI latch (R38). -/
  nmiLatch : Bool
  /-- Nametable RAM by physical index (R24). -/
  vram : Memory
  /-- The palette table (R25). -/
  palette : Memory
  /-- Object attribute memory (R26). -/
  oam : Memory
deriving DecidableEq, Repr

/-- The state of the machine. -/
structure State where
  /-- The accumulator (R10). -/
  a : Byte
  /-- Index register X (R11). -/
  x : Byte
  /-- Index register Y (R12). -/
  y : Byte
  /-- The stack pointer (R13). -/
  sp : Byte
  /-- The status register (R15). -/
  p : Byte
  /-- The program counter (R14). -/
  pc : Word
  /-- The run status (R19). -/
  run : RunStatus
  /-- The read-only-violation record (R20). -/
  report : Report
  /-- The 2 KB of RAM by index (R21). -/
  ram : Memory
  /-- The PPU (R24 to R38). -/
  ppu : Ppu
  /-- The configuration (R5); held as state, and no step changes it (log 3). -/
  cart : Cartridge
  /-- `frame_complete`, the output pulse of the last step (R7, R291; log 5). -/
  frameComplete : Bool
deriving DecidableEq, Repr

/-- Why the machine stops without a next state. -/
inductive Fault where
  /-- A step was asked for while `run` is not Running: no step exists (R19, U10). Raised by `step`; safe. -/
  | notRunning (status : RunStatus)
deriving DecidableEq, Repr

/-- Why the model gives no meaning. -/
inductive Refusal where
  /-- An instruction without a meaning yet. Raised by a refused arm of `exec`, of which there is none; safe. -/
  | notModelled (mnemonic : String)
  /-- `Construct` with an image of an illegal length (R5, D23). Raised by `construct` alone; safe. -/
  | badImageSize
deriving DecidableEq, Repr

/-- The outcome of an instruction or a step. -/
abbrev Out := Host.Outcome State Fault Refusal

/-- The PPU right after `Reset()` (R350). -/
def Ppu.reset : Ppu where
  ctrl := 0x00#8
  mask := 0x00#8
  status := 0x00#8
  oamAddr := 0x00#8
  addr := 0x0000#16
  addrLatch := .first
  scrollX := 0x00#8
  scrollY := 0x00#8
  scrollLatch := .first
  readBuffer := 0x00#8
  scanLine := 0
  cycleCounter := 0
  nmiLatch := false
  vram := []
  palette := []
  oam := []

/-- `Reset()` of the core that holds the cartridge `c` (R350, R351). -/
def State.resetWith (c : Cartridge) : State where
  a := 0x00#8
  x := 0x00#8
  y := 0x00#8
  sp := 0xFD#8
  p := 0x24#8
  pc := c.vector Params.resetVector
  run := .running
  report := ⟨0, none⟩
  ram := []
  ppu := .reset
  cart := c
  frameComplete := false

/-- The machine right after reset with the blank cartridge (log 3). -/
def State.reset : State := .resetWith .blank

end Sys2Proof.Machine
end

