-- ==== Sys2Proof/Machine/Access.lean ====
section
/-! DEFINITION. Field updates of State, and the result of a piece of a step: it goes on with a value, or a fatal fault
has ended the step (60_exceptions.md R320). -/

namespace Sys2Proof.Machine

/-- `A <- v`. -/
def State.setA (s : State) (v : Byte) : State := { s with a := v }

/-- `X <- v`. -/
def State.setX (s : State) (v : Byte) : State := { s with x := v }

/-- `Y <- v`. -/
def State.setY (s : State) (v : Byte) : State := { s with y := v }

/-- `SP <- v`. -/
def State.setSp (s : State) (v : Byte) : State := { s with sp := v }

/-- `P <- v`. -/
def State.setP (s : State) (v : Byte) : State := { s with p := v }

/-- `PC <- v`. -/
def State.setPc (s : State) (v : Word) : State := { s with pc := v }

/-- `run <- v`. -/
def State.setRun (s : State) (v : RunStatus) : State := { s with run := v }

/-- `report <- v`. -/
def State.setReport (s : State) (v : Report) : State := { s with report := v }

/-- `ram <- v`. -/
def State.setRam (s : State) (v : Memory) : State := { s with ram := v }

/-- The PPU's state becomes `v`. -/
def State.setPpu (s : State) (v : Ppu) : State := { s with ppu := v }

/-- The cartridge becomes `v`: a host's load alone does this (log 4). -/
def State.setCart (s : State) (v : Cartridge) : State := { s with cart := v }

/-- `frame_complete <- v`. -/
def State.setFrameComplete (s : State) (v : Bool) : State := { s with frameComplete := v }

/-- The result of a bus access or of a piece of an instruction. -/
inductive Access (α : Type) where
  /-- The step goes on with the value `v` in the state `s`. -/
  | ok (v : α) (s : State)
  /-- A fatal fault ended the step in the state `s`; `s.run` records it (R320). -/
  | stop (s : State)

/-- Sequencing: what follows a fatal fault does not happen (R320). -/
def Access.andThen {α β : Type} (r : Access α) (f : α → State → Access β) : Access β :=
  match r with
  | .ok v s => f v s
  | .stop s => .stop s

/-- The state a piece of a step ends in. -/
def Access.state {α : Type} : Access α → State
  | .ok _ s => s
  | .stop s => s

/-- `raise <Fault>(info)`: `run` records the fault, everything else stays, the step ends (R320). -/
def raise {α : Type} (fault : RunStatus) (s : State) : Access α := .stop (s.setRun fault)

/-- The end of an instruction that took no control transfer: `PC` advances by the operand-byte count (R126). -/
def Access.advance (r : Access Unit) (operandBytes : Nat) : Out :=
  match r with
  | .ok _ s => .next (s.setPc (s.pc + BitVec.ofNat 16 operandBytes))
  | .stop s => .next s

/-- The end of an instruction that took a control transfer: `PC <- target`, no advance (R125). -/
def Access.jump (r : Access Word) : Out :=
  match r with
  | .ok target s => .next (s.setPc target)
  | .stop s => .next s

end Sys2Proof.Machine
end

