-- ==== Sys2Proof/Machine/Ppu.lean ====
section
/-! DEFINITION. The PPU's eight ports, its address map and its timing state machine (50_ppu.md). -/

namespace Sys2Proof.Machine

/-- The PPU's own state becomes `v`, its memories and all else unchanged by this alone. -/
def State.updPpu (s : State) (f : Ppu → Ppu) : State := s.setPpu (f s.ppu)

/-- `RejectWrite(space, addr, v)` (20_memory.md R57): the count rises, the first violation is kept, no memory changes. -/
def rejectWrite (space : RomSpace) (addr : Word) (v : Byte) (s : State) : State :=
  s.setReport ⟨s.report.count + 1, match s.report.first with
    | none => some ⟨space, addr, v⟩
    | some first => some first⟩

/-- `CtrlWrite(v)`, port 0 (R273): newly enabling generate-NMI in vblank latches an NMI. -/
def ctrlWrite (v : Byte) (q : Ppu) : Ppu :=
  { q with
    ctrl := v
    nmiLatch := q.nmiLatch || (!q.ctrl.getLsbD 7 && v.getLsbD 7 && q.status.getLsbD 7) }

/-- `MaskWrite(v)`, port 1 (R274). -/
def maskWrite (v : Byte) (q : Ppu) : Ppu := { q with mask := v }

/-- The PPU after `StatusRead()`, port 2 (R275): in-vblank cleared, both latches First. -/
def statusReadEffect (q : Ppu) : Ppu :=
  { q with status := q.status &&& ~~~0x80#8, addrLatch := .first, scrollLatch := .first }

/-- `OamAddrWrite(v)`, port 3 (R276). -/
def oamAddrWrite (v : Byte) (q : Ppu) : Ppu := { q with oamAddr := v }

/-- `OamDataRead()`, port 4 (R277): no increment. -/
def oamDataRead (q : Ppu) : Byte := q.oam.read q.oamAddr.toNat

/-- `OamDataWrite(v)`, port 4 (R278): the pointer increments and wraps. -/
def oamDataWrite (v : Byte) (q : Ppu) : Ppu :=
  { q with oam := q.oam.write q.oamAddr.toNat v, oamAddr := q.oamAddr + 1#8 }

/-- `ScrollWrite(v)`, port 5 (R279). -/
def scrollWrite (v : Byte) (q : Ppu) : Ppu :=
  match q.scrollLatch with
  | .first => { q with scrollX := v, scrollLatch := .second }
  | .second => { q with scrollY := v, scrollLatch := .first }

/-- `AddrWrite(v)`, port 6 (R280): masked after each of the two writes. -/
def addrWrite (v : Byte) (q : Ppu) : Ppu :=
  match q.addrLatch with
  | .first => { q with addr := cat v (lo q.addr) &&& 0x3FFF#16, addrLatch := .second }
  | .second => { q with addr := cat (hi q.addr) v &&& 0x3FFF#16, addrLatch := .first }

/-- `VramIncrement()` (R281): by 1 or 32 as Control bit 2 says. -/
def vramIncrement (q : Ppu) : Ppu :=
  { q with addr := (q.addr + (if q.ctrl.getLsbD 2 then 32#16 else 1#16)) &&& 0x3FFF#16 }

/-- The fold of `MirrorVram(a)` (R284, R296, R297) for `a` in 0x2000 to 0x3EFF; under FourScreen the index may pass
the 2 KB of `vram`. -/
def mirrorVram (m : Mirroring) (a : Word) : Nat :=
  let i := (a &&& 0x2FFF#16).toNat - 0x2000
  match m, i / 0x400 with
  | .horizontal, 0 => i
  | .horizontal, 1 => i - 0x400
  | .horizontal, 2 => i - 0x400
  | .horizontal, _ => i - 0x800
  | .vertical, 0 => i
  | .vertical, 1 => i
  | .vertical, _ => i - 0x800
  | .fourScreen, _ => i

/-- `PaletteIndex(a)` (R285): modulo 32, then the four aliases. -/
def paletteIndex (a : Word) : Nat :=
  let i := (a &&& 0x1F#16).toNat
  if i = 0x10 ∨ i = 0x14 ∨ i = 0x18 ∨ i = 0x1C then i - 0x10 else i

/-- The three stores of the PPU address space (R286). -/
inductive PpuCell where
  /-- A character-ROM byte. -/
  | chr (a : Word)
  /-- A nametable byte by the index the fold gives. -/
  | vram (index : Nat)
  /-- A palette byte. -/
  | palette (index : Nat)
deriving DecidableEq, Repr

/-- The cell PPU address `a` names (R286). -/
def ppuCell (m : Mirroring) (a : Word) : PpuCell :=
  if a.toNat ≤ 0x1FFF then .chr a
  else if a.toNat ≤ 0x3EFF then .vram (mirrorVram m a)
  else .palette (paletteIndex a)

/-- The buffered path of a data read (R282): the old buffer is returned, `new` takes its place. -/
def bufferedRead (new : Byte) (s : State) : Access Byte :=
  .ok s.ppu.readBuffer (s.updPpu fun q => { q with readBuffer := new })

/-- `DataRead()`, port 7 (R282, R296). -/
def dataRead (s : State) : Access Byte :=
  let t := s.updPpu vramIncrement
  match ppuCell s.cart.mirroring s.ppu.addr with
  | .chr a => bufferedRead (s.cart.chrRead a) t
  | .vram i => if i < Params.vramSize then bufferedRead (s.ppu.vram.read i) t else raise (.vramRange i) t
  | .palette i => .ok (s.ppu.palette.read i) t

/-- `DataWrite(v)`, port 7 (R283, R296): the increment follows the store, and a rejected store too. -/
def dataWrite (v : Byte) (s : State) : Access Unit :=
  match ppuCell s.cart.mirroring s.ppu.addr with
  | .chr a => .ok () ((rejectWrite .chr a v s).updPpu vramIncrement)
  | .vram i =>
    if i < Params.vramSize then
      .ok () ((s.updPpu fun q => { q with vram := q.vram.write i v }).updPpu vramIncrement)
    else raise (.vramRange i) s
  | .palette i => .ok () ((s.updPpu fun q => { q with palette := q.palette.write i v }).updPpu vramIncrement)

/-- `PpuPortRead(p)` (R271); the write-only ports read 0x00 (R287; log 8). -/
def portRead (port : Nat) (s : State) : Access Byte :=
  match port with
  | 2 => .ok s.ppu.status (s.updPpu statusReadEffect)
  | 4 => .ok (oamDataRead s.ppu) s
  | 7 => dataRead s
  | _ => .ok 0x00#8 s

/-- `PpuPortWrite(p, v)` (R272); a write to port 2 changes nothing (R288). -/
def portWrite (port : Nat) (v : Byte) (s : State) : Access Unit :=
  match port with
  | 0 => .ok () (s.updPpu (ctrlWrite v))
  | 1 => .ok () (s.updPpu (maskWrite v))
  | 3 => .ok () (s.updPpu (oamAddrWrite v))
  | 4 => .ok () (s.updPpu (oamDataWrite v))
  | 5 => .ok () (s.updPpu (scrollWrite v))
  | 6 => .ok () (s.updPpu (addrWrite v))
  | 7 => dataWrite v s
  | _ => .ok () s

/-- `VblankEntry()` (R290). -/
def vblankEntry (q : Ppu) : Ppu :=
  { q with status := (q.status ||| 0x80#8) &&& ~~~0x40#8, nmiLatch := q.nmiLatch || q.ctrl.getLsbD 7 }

/-- `FrameWrap()` (R291). -/
def frameWrap (q : Ppu) : Ppu :=
  { q with scanLine := 0, nmiLatch := false, status := q.status &&& ~~~0xC0#8 }

/-- The PPU after the scanline counter rose: vblank entry at its scanline (R289). -/
def nextScanline (q : Ppu) : Ppu :=
  let q := { q with cycleCounter := q.cycleCounter - Params.cyclesPerScanline, scanLine := q.scanLine + 1 }
  if q.scanLine = Params.vblankScanline then vblankEntry q else q

/-- `PpuTick(n)` (R289): the PPU after `n` PPU cycles and whether the frame completed. -/
def ppuTick (n : Nat) (q : Ppu) : Ppu × Bool :=
  let q := { q with cycleCounter := q.cycleCounter + n }
  if Params.cyclesPerScanline ≤ q.cycleCounter then
    if Params.scanlinesPerFrame ≤ (nextScanline q).scanLine then (frameWrap (nextScanline q), true)
    else (nextScanline q, false)
  else (q, false)

end Sys2Proof.Machine
end

