-- ==== Sys2Proof/Machine/Ops.lean ====
section
/-! DEFINITION. The bus router (20_memory.md), the stack primitives (10_state.md R41 to R44), and taking and leaving
the NMI (60_exceptions.md R327, R331). -/

namespace Sys2Proof.Machine

/-- The RAM index of a CPU address below 0x2000 (20_memory.md R53). -/
def ramIndex (addr : Word) : Nat := (addr &&& 0x07FF#16).toNat

/-- The port number of a CPU address of 0x2000 to 0x3FFF (R54). -/
def portOf (addr : Word) : Nat := ((addr &&& 0x2007#16) - 0x2000#16).toNat

/-- `BusRead(addr)` (R51). -/
def busRead (addr : Word) (s : State) : Access Byte :=
  if addr.toNat ≤ 0x1FFF then .ok (s.ram.read (ramIndex addr)) s
  else if addr.toNat ≤ 0x3FFF then portRead (portOf addr) s
  else if 0x8000 ≤ addr.toNat then .ok (s.cart.prgRead addr) s
  else .ok 0x00#8 s

/-- `BusWrite(addr, v)` (R52). -/
def busWrite (addr : Word) (v : Byte) (s : State) : Access Unit :=
  if addr.toNat ≤ 0x1FFF then .ok () (s.setRam (s.ram.write (ramIndex addr) v))
  else if addr.toNat ≤ 0x3FFF then portWrite (portOf addr) v s
  else if 0x8000 ≤ addr.toNat then .ok () (rejectWrite .prg addr v s)
  else .ok () s

/-- `Read16(addr)` (R58): low byte first; the address of the high byte wraps. -/
def read16 (addr : Word) (s : State) : Access Word :=
  (busRead addr s).andThen fun l s => (busRead (addr + 1#16) s).andThen fun h s => .ok (cat h l) s

/-- The address of the stack cell `sp` points at (R13). -/
def stackAddr (sp : Byte) : Word := Params.stackBase + zext sp

/-- `Push8(v)` (R41). -/
def push8 (v : Byte) (s : State) : Access Unit :=
  (busWrite (stackAddr s.sp) v s).andThen fun _ s => .ok () (s.setSp (s.sp - 1#8))

/-- `Pop8()` (R42). -/
def pop8 (s : State) : Access Byte := busRead (stackAddr (s.sp + 1#8)) (s.setSp (s.sp + 1#8))

/-- `Push16(w)` (R43): high byte first. -/
def push16 (w : Word) (s : State) : Access Unit := (push8 (hi w) s).andThen fun _ s => push8 (lo w) s

/-- `Pop16()` (R44): low byte first. -/
def pop16 (s : State) : Access Word :=
  (pop8 s).andThen fun l s => (pop8 s).andThen fun h s => .ok (cat h l) s

/-- `NmiEntry()`, taking the one exception of this block (R327): PC and status pushed, `I` set, PC from the vector. -/
def nmiEntry (s : State) : Access Unit :=
  (push16 s.pc s).andThen fun _ s =>
  (push8 (nmiStatus s.p) s).andThen fun _ s =>
  (read16 Params.nmiVector (s.setP (setFlag s.p .i true))).andThen fun target s => .ok () (s.setPc target)

/-- The return from it, RTI's effect (43_control_flow.md R195): the status popped and restored, then the target. -/
def returnFromNmi (s : State) : Access Word :=
  (pop8 s).andThen fun popped s => pop16 (s.setP (restoredStatus popped))

/-- The take-and-clear poll at the end of a step (35_instruction_cycle.md R128). -/
def pollNmi (s : State) : State :=
  if s.ppu.nmiLatch then (nmiEntry (s.updPpu fun q => { q with nmiLatch := false })).state else s

end Sys2Proof.Machine
end

