-- ==== Sys2Proof/Machine/Operands.lean ====
section
/-! DEFINITION. The addressing modes (30_encoding.md R93 to R105), and the four shapes of an instruction with an
operand: reading, storing, modifying, and the register updates they share. The operand bytes were fetched before
(35_instruction_cycle.md R124; log 2), so a mode makes its pointer reads only. -/

namespace Sys2Proof.Machine

/-- The 16-bit pointer at zero-page address `p`; the second byte wraps in page zero (R102, R103). -/
def zeroPagePointer (p : Byte) (s : State) : Access Word :=
  (busRead (zext p) s).andThen fun l s => (busRead (zext (p + 1#8)) s).andThen fun h s => .ok (cat h l) s

/-- The target the Indirect mode reads, with the page-wrap bug (R101). -/
def indirectTarget (ptr : Word) (s : State) : Access Word :=
  let second := if lo ptr = 0xFF#8 then ptr &&& 0xFF00#16 else ptr + 1#16
  (busRead ptr s).andThen fun l s => (busRead second s).andThen fun h s => .ok (cat h l) s

/-- `Resolve(format)` (R124): the effective address. IMP, ACC and REL have none, and using one is the fatal
ContractViolation (R104, R322), which no instruction does. -/
def resolve (o : Operand) (s : State) : Access Word :=
  match o with
  | .imm _ => .ok s.pc s
  | .zp a => .ok (zext a) s
  | .zpx a => .ok (zext (a + s.x)) s
  | .zpy a => .ok (zext (a + s.y)) s
  | .abs a => .ok a s
  | .abx a => .ok (a + zext s.x) s
  | .aby a => .ok (a + zext s.y) s
  | .ind a => indirectTarget a s
  | .izx a => zeroPagePointer (a + s.x) s
  | .izy a => (zeroPagePointer a s).andThen fun w s => .ok (w + zext s.y) s
  | .imp => raise .contractViolation s
  | .acc => raise .contractViolation s
  | .rel _ => raise .contractViolation s

/-- `M <- BusRead(ea)`: the operand byte. The Immediate operand is byte 1, which the fetch has read (R94; log 2). -/
def readOperand (o : Operand) (s : State) : Access Byte :=
  match o with
  | .imm v => .ok v s
  | o => (resolve o s).andThen busRead

/-- `A <- v; SetZN(A)`. -/
def loadA (v : Byte) (s : State) : State := (s.setA v).setP (setZN s.p v)

/-- `X <- v; SetZN(X)`. -/
def loadX (v : Byte) (s : State) : State := (s.setX v).setP (setZN s.p v)

/-- `Y <- v; SetZN(Y)`. -/
def loadY (v : Byte) (s : State) : State := (s.setY v).setP (setZN s.p v)

/-- `AddWithCarry(m)` (41_arithmetic_logic.md R151). -/
def addWithCarry (m : Byte) (s : State) : State :=
  (s.setA (addResult s.a m (flag s.p .c))).setP (addFlags s.a m s.p)

/-- `Compare(r, m)` (R156). -/
def compareWith (r m : Byte) (s : State) : State := s.setP (compareFlags r m s.p)

/-- An instruction that reads its operand byte `M` and then does `f M`. -/
def readForm (f : Byte → State → State) (o : Operand) (s : State) : Out :=
  ((readOperand o s).andThen fun m s => .ok () (f m s)).advance o.operandBytes

/-- An instruction that stores the byte `value` gives; no read of the address precedes (20_memory.md R62). -/
def storeForm (value : State → Byte) (o : Operand) (s : State) : Out :=
  ((resolve o s).andThen fun ea s => busWrite ea (value s) s).advance o.operandBytes

/-- A read-modify-write instruction: one read of the address, one write of `(core v).1`, then `after` (R62, R180). -/
def modifyForm {α : Type} (core : Byte → State → Byte × α) (after : Byte → α → State → State) (o : Operand)
    (s : State) : Out :=
  ((resolve o s).andThen fun ea s =>
   (busRead ea s).andThen fun v s =>
   (busWrite ea (core v s).1 s).andThen fun _ t => .ok () (after (core v s).1 (core v s).2 t)).advance o.operandBytes

end Sys2Proof.Machine
end

