-- ==== Sys2Proof/Machine/Arithmetic.lean ====
section
/-! DEFINITION. Arithmetic, logic, compare, bit test, increment and decrement (41_arithmetic_logic.md R150 to R166): one shared
operation per mnemonic (30_encoding.md R113) and one meaning per opcode. A meaning starts with `PC` at byte 1 (R122) and
answers the state after step 5 of the cycle (R126). -/

namespace Sys2Proof.Machine

/-- ADC (R151). -/
def adcForm : Operand → State → Out := readForm addWithCarry

/-- SBC (R152): the sum with the complement. -/
def sbcForm : Operand → State → Out := readForm fun m s => addWithCarry (~~~m) s

/-- AND (R153). -/
def andForm : Operand → State → Out := readForm fun m s => loadA (s.a &&& m) s

/-- ORA (R154). -/
def oraForm : Operand → State → Out := readForm fun m s => loadA (s.a ||| m) s

/-- EOR (R155). -/
def eorForm : Operand → State → Out := readForm fun m s => loadA (s.a ^^^ m) s

/-- CMP (R157). -/
def cmpForm : Operand → State → Out := readForm fun m s => compareWith s.a m s

/-- CPX (R158). -/
def cpxForm : Operand → State → Out := readForm fun m s => compareWith s.x m s

/-- CPY (R159). -/
def cpyForm : Operand → State → Out := readForm fun m s => compareWith s.y m s

/-- BIT (R160). -/
def bitForm : Operand → State → Out := readForm fun m s => s.setP (bitFlags s.a m s.p)

/-- INC (R161). -/
def incForm : Operand → State → Out := modifyForm (fun v _ => (v + 1#8, ())) fun r _ s => s.setP (setZN s.p r)

/-- DEC (R162). -/
def decForm : Operand → State → Out := modifyForm (fun v _ => (v - 1#8, ())) fun r _ s => s.setP (setZN s.p r)

/-- 69 ADC IMM (R151). -/
def execAdcImm (v : Byte) (s : State) : Out := adcForm (.imm v) s

/-- 65 ADC ZP (R151). -/
def execAdcZp (a : Byte) (s : State) : Out := adcForm (.zp a) s

/-- 75 ADC ZPX (R151). -/
def execAdcZpx (a : Byte) (s : State) : Out := adcForm (.zpx a) s

/-- 6D ADC ABS (R151). -/
def execAdcAbs (a : Word) (s : State) : Out := adcForm (.abs a) s

/-- 7D ADC ABX (R151). -/
def execAdcAbx (a : Word) (s : State) : Out := adcForm (.abx a) s

/-- 79 ADC ABY (R151). -/
def execAdcAby (a : Word) (s : State) : Out := adcForm (.aby a) s

/-- 61 ADC IZX (R151). -/
def execAdcIzx (a : Byte) (s : State) : Out := adcForm (.izx a) s

/-- 71 ADC IZY (R151). -/
def execAdcIzy (a : Byte) (s : State) : Out := adcForm (.izy a) s

/-- E9 SBC IMM (R152). -/
def execSbcImm (v : Byte) (s : State) : Out := sbcForm (.imm v) s

/-- E5 SBC ZP (R152). -/
def execSbcZp (a : Byte) (s : State) : Out := sbcForm (.zp a) s

/-- F5 SBC ZPX (R152). -/
def execSbcZpx (a : Byte) (s : State) : Out := sbcForm (.zpx a) s

/-- ED SBC ABS (R152). -/
def execSbcAbs (a : Word) (s : State) : Out := sbcForm (.abs a) s

/-- FD SBC ABX (R152). -/
def execSbcAbx (a : Word) (s : State) : Out := sbcForm (.abx a) s

/-- F9 SBC ABY (R152). -/
def execSbcAby (a : Word) (s : State) : Out := sbcForm (.aby a) s

/-- E1 SBC IZX (R152). -/
def execSbcIzx (a : Byte) (s : State) : Out := sbcForm (.izx a) s

/-- F1 SBC IZY (R152). -/
def execSbcIzy (a : Byte) (s : State) : Out := sbcForm (.izy a) s

/-- 29 AND IMM (R153). -/
def execAndImm (v : Byte) (s : State) : Out := andForm (.imm v) s

/-- 25 AND ZP (R153). -/
def execAndZp (a : Byte) (s : State) : Out := andForm (.zp a) s

/-- 35 AND ZPX (R153). -/
def execAndZpx (a : Byte) (s : State) : Out := andForm (.zpx a) s

/-- 2D AND ABS (R153). -/
def execAndAbs (a : Word) (s : State) : Out := andForm (.abs a) s

/-- 3D AND ABX (R153). -/
def execAndAbx (a : Word) (s : State) : Out := andForm (.abx a) s

/-- 39 AND ABY (R153). -/
def execAndAby (a : Word) (s : State) : Out := andForm (.aby a) s

/-- 21 AND IZX (R153). -/
def execAndIzx (a : Byte) (s : State) : Out := andForm (.izx a) s

/-- 31 AND IZY (R153). -/
def execAndIzy (a : Byte) (s : State) : Out := andForm (.izy a) s

/-- 09 ORA IMM (R154). -/
def execOraImm (v : Byte) (s : State) : Out := oraForm (.imm v) s

/-- 05 ORA ZP (R154). -/
def execOraZp (a : Byte) (s : State) : Out := oraForm (.zp a) s

/-- 15 ORA ZPX (R154). -/
def execOraZpx (a : Byte) (s : State) : Out := oraForm (.zpx a) s

/-- 0D ORA ABS (R154). -/
def execOraAbs (a : Word) (s : State) : Out := oraForm (.abs a) s

/-- 1D ORA ABX (R154). -/
def execOraAbx (a : Word) (s : State) : Out := oraForm (.abx a) s

/-- 19 ORA ABY (R154). -/
def execOraAby (a : Word) (s : State) : Out := oraForm (.aby a) s

/-- 01 ORA IZX (R154). -/
def execOraIzx (a : Byte) (s : State) : Out := oraForm (.izx a) s

/-- 11 ORA IZY (R154). -/
def execOraIzy (a : Byte) (s : State) : Out := oraForm (.izy a) s

/-- 49 EOR IMM (R155). -/
def execEorImm (v : Byte) (s : State) : Out := eorForm (.imm v) s

/-- 45 EOR ZP (R155). -/
def execEorZp (a : Byte) (s : State) : Out := eorForm (.zp a) s

/-- 55 EOR ZPX (R155). -/
def execEorZpx (a : Byte) (s : State) : Out := eorForm (.zpx a) s

/-- 4D EOR ABS (R155). -/
def execEorAbs (a : Word) (s : State) : Out := eorForm (.abs a) s

/-- 5D EOR ABX (R155). -/
def execEorAbx (a : Word) (s : State) : Out := eorForm (.abx a) s

/-- 59 EOR ABY (R155). -/
def execEorAby (a : Word) (s : State) : Out := eorForm (.aby a) s

/-- 41 EOR IZX (R155). -/
def execEorIzx (a : Byte) (s : State) : Out := eorForm (.izx a) s

/-- 51 EOR IZY (R155). -/
def execEorIzy (a : Byte) (s : State) : Out := eorForm (.izy a) s

/-- C9 CMP IMM (R157). -/
def execCmpImm (v : Byte) (s : State) : Out := cmpForm (.imm v) s

/-- C5 CMP ZP (R157). -/
def execCmpZp (a : Byte) (s : State) : Out := cmpForm (.zp a) s

/-- D5 CMP ZPX (R157). -/
def execCmpZpx (a : Byte) (s : State) : Out := cmpForm (.zpx a) s

/-- CD CMP ABS (R157). -/
def execCmpAbs (a : Word) (s : State) : Out := cmpForm (.abs a) s

/-- DD CMP ABX (R157). -/
def execCmpAbx (a : Word) (s : State) : Out := cmpForm (.abx a) s

/-- D9 CMP ABY (R157). -/
def execCmpAby (a : Word) (s : State) : Out := cmpForm (.aby a) s

/-- C1 CMP IZX (R157). -/
def execCmpIzx (a : Byte) (s : State) : Out := cmpForm (.izx a) s

/-- D1 CMP IZY (R157). -/
def execCmpIzy (a : Byte) (s : State) : Out := cmpForm (.izy a) s

/-- E0 CPX IMM (R158). -/
def execCpxImm (v : Byte) (s : State) : Out := cpxForm (.imm v) s

/-- E4 CPX ZP (R158). -/
def execCpxZp (a : Byte) (s : State) : Out := cpxForm (.zp a) s

/-- EC CPX ABS (R158). -/
def execCpxAbs (a : Word) (s : State) : Out := cpxForm (.abs a) s

/-- C0 CPY IMM (R159). -/
def execCpyImm (v : Byte) (s : State) : Out := cpyForm (.imm v) s

/-- C4 CPY ZP (R159). -/
def execCpyZp (a : Byte) (s : State) : Out := cpyForm (.zp a) s

/-- CC CPY ABS (R159). -/
def execCpyAbs (a : Word) (s : State) : Out := cpyForm (.abs a) s

/-- 24 BIT ZP (R160). -/
def execBitZp (a : Byte) (s : State) : Out := bitForm (.zp a) s

/-- 2C BIT ABS (R160). -/
def execBitAbs (a : Word) (s : State) : Out := bitForm (.abs a) s

/-- E6 INC ZP (R161). -/
def execIncZp (a : Byte) (s : State) : Out := incForm (.zp a) s

/-- F6 INC ZPX (R161). -/
def execIncZpx (a : Byte) (s : State) : Out := incForm (.zpx a) s

/-- EE INC ABS (R161). -/
def execIncAbs (a : Word) (s : State) : Out := incForm (.abs a) s

/-- FE INC ABX (R161). -/
def execIncAbx (a : Word) (s : State) : Out := incForm (.abx a) s

/-- C6 DEC ZP (R162). -/
def execDecZp (a : Byte) (s : State) : Out := decForm (.zp a) s

/-- D6 DEC ZPX (R162). -/
def execDecZpx (a : Byte) (s : State) : Out := decForm (.zpx a) s

/-- CE DEC ABS (R162). -/
def execDecAbs (a : Word) (s : State) : Out := decForm (.abs a) s

/-- DE DEC ABX (R162). -/
def execDecAbx (a : Word) (s : State) : Out := decForm (.abx a) s

/-- E8 INX IMP (R163). -/
def execInx (s : State) : Out := .next (loadX (s.x + 1#8) s)

/-- C8 INY IMP (R164). -/
def execIny (s : State) : Out := .next (loadY (s.y + 1#8) s)

/-- CA DEX IMP (R165). -/
def execDex (s : State) : Out := .next (loadX (s.x - 1#8) s)

/-- 88 DEY IMP (R166). -/
def execDey (s : State) : Out := .next (loadY (s.y - 1#8) s)

end Sys2Proof.Machine
end

