-- ==== Sys2Proof/Machine/Control.lean ====
section
/-! DEFINITION. Control transfer, BRK and NOP (43_control_flow.md R190 to R206): one shared
operation per mnemonic (30_encoding.md R113) and one meaning per opcode. A meaning starts with `PC` at byte 1 (R122) and
answers the state after step 5 of the cycle (R126). -/

namespace Sys2Proof.Machine

/-- JMP, both forms (R191, R192): the effective address is the target. -/
def jmpForm (o : Operand) (s : State) : Out := (resolve o s).jump

/-- `Branch(cond)` (R196): `PC` is the address of the displacement byte. -/
def branch (cond : Bool) (d : Byte) (s : State) : Out :=
  if cond then (Access.ok (s.pc + 1#16 + sext d) s).jump else (Access.ok () s).advance 1

/-- 4C JMP ABS (R191). -/
def execJmpAbs (a : Word) (s : State) : Out := jmpForm (.abs a) s

/-- 6C JMP IND (R192). -/
def execJmpInd (a : Word) (s : State) : Out := jmpForm (.ind a) s

/-- 20 JSR ABS (R193): both operand bytes were read before the push. -/
def execJsr (a : Word) (s : State) : Out := ((push16 (s.pc + 1#16) s).andThen fun _ s => .ok a s).jump

/-- 60 RTS IMP (R194). -/
def execRts (s : State) : Out := ((pop16 s).andThen fun w s => .ok (w + 1#16) s).jump

/-- 40 RTI IMP (R195). -/
def execRti (s : State) : Out := (returnFromNmi s).jump

/-- 90 BCC REL (R197). -/
def execBcc (d : Byte) (s : State) : Out := branch (!flag s.p .c) d s

/-- B0 BCS REL (R198). -/
def execBcs (d : Byte) (s : State) : Out := branch (flag s.p .c) d s

/-- F0 BEQ REL (R199). -/
def execBeq (d : Byte) (s : State) : Out := branch (flag s.p .z) d s

/-- D0 BNE REL (R200). -/
def execBne (d : Byte) (s : State) : Out := branch (!flag s.p .z) d s

/-- 30 BMI REL (R201). -/
def execBmi (d : Byte) (s : State) : Out := branch (flag s.p .n) d s

/-- 10 BPL REL (R202). -/
def execBpl (d : Byte) (s : State) : Out := branch (!flag s.p .n) d s

/-- 50 BVC REL (R203). -/
def execBvc (d : Byte) (s : State) : Out := branch (!flag s.p .v) d s

/-- 70 BVS REL (R204). -/
def execBvs (d : Byte) (s : State) : Out := branch (flag s.p .v) d s

/-- 00 BRK IMP (R205). -/
def execBrk (s : State) : Out := .next (s.setRun .haltedBrk)

/-- EA NOP IMP (R206). -/
def execNop (s : State) : Out := .next s

end Sys2Proof.Machine
end

