-- ==== Sys2Proof/Machine/LoadStore.lean ====
section
/-! DEFINITION. Load, store and transfer instructions (40_load_store_transfer.md R130 to R142): one shared
operation per mnemonic (30_encoding.md R113) and one meaning per opcode. A meaning starts with `PC` at byte 1 (R122) and
answers the state after step 5 of the cycle (R126). -/

namespace Sys2Proof.Machine

/-- LDA (R131). -/
def ldaForm : Operand → State → Out := readForm loadA

/-- LDX (R132). -/
def ldxForm : Operand → State → Out := readForm loadX

/-- LDY (R133). -/
def ldyForm : Operand → State → Out := readForm loadY

/-- STA (R134). -/
def staForm : Operand → State → Out := storeForm State.a

/-- STX (R135). -/
def stxForm : Operand → State → Out := storeForm State.x

/-- STY (R136). -/
def styForm : Operand → State → Out := storeForm State.y

/-- A9 LDA IMM (R131). -/
def execLdaImm (v : Byte) (s : State) : Out := ldaForm (.imm v) s

/-- A5 LDA ZP (R131). -/
def execLdaZp (a : Byte) (s : State) : Out := ldaForm (.zp a) s

/-- B5 LDA ZPX (R131). -/
def execLdaZpx (a : Byte) (s : State) : Out := ldaForm (.zpx a) s

/-- AD LDA ABS (R131). -/
def execLdaAbs (a : Word) (s : State) : Out := ldaForm (.abs a) s

/-- BD LDA ABX (R131). -/
def execLdaAbx (a : Word) (s : State) : Out := ldaForm (.abx a) s

/-- B9 LDA ABY (R131). -/
def execLdaAby (a : Word) (s : State) : Out := ldaForm (.aby a) s

/-- A1 LDA IZX (R131). -/
def execLdaIzx (a : Byte) (s : State) : Out := ldaForm (.izx a) s

/-- B1 LDA IZY (R131). -/
def execLdaIzy (a : Byte) (s : State) : Out := ldaForm (.izy a) s

/-- A2 LDX IMM (R132). -/
def execLdxImm (v : Byte) (s : State) : Out := ldxForm (.imm v) s

/-- A6 LDX ZP (R132). -/
def execLdxZp (a : Byte) (s : State) : Out := ldxForm (.zp a) s

/-- B6 LDX ZPY (R132). -/
def execLdxZpy (a : Byte) (s : State) : Out := ldxForm (.zpy a) s

/-- AE LDX ABS (R132). -/
def execLdxAbs (a : Word) (s : State) : Out := ldxForm (.abs a) s

/-- BE LDX ABY (R132). -/
def execLdxAby (a : Word) (s : State) : Out := ldxForm (.aby a) s

/-- A0 LDY IMM (R133). -/
def execLdyImm (v : Byte) (s : State) : Out := ldyForm (.imm v) s

/-- A4 LDY ZP (R133). -/
def execLdyZp (a : Byte) (s : State) : Out := ldyForm (.zp a) s

/-- B4 LDY ZPX (R133). -/
def execLdyZpx (a : Byte) (s : State) : Out := ldyForm (.zpx a) s

/-- AC LDY ABS (R133). -/
def execLdyAbs (a : Word) (s : State) : Out := ldyForm (.abs a) s

/-- BC LDY ABX (R133). -/
def execLdyAbx (a : Word) (s : State) : Out := ldyForm (.abx a) s

/-- 85 STA ZP (R134). -/
def execStaZp (a : Byte) (s : State) : Out := staForm (.zp a) s

/-- 95 STA ZPX (R134). -/
def execStaZpx (a : Byte) (s : State) : Out := staForm (.zpx a) s

/-- 8D STA ABS (R134). -/
def execStaAbs (a : Word) (s : State) : Out := staForm (.abs a) s

/-- 9D STA ABX (R134). -/
def execStaAbx (a : Word) (s : State) : Out := staForm (.abx a) s

/-- 99 STA ABY (R134). -/
def execStaAby (a : Word) (s : State) : Out := staForm (.aby a) s

/-- 81 STA IZX (R134). -/
def execStaIzx (a : Byte) (s : State) : Out := staForm (.izx a) s

/-- 91 STA IZY (R134). -/
def execStaIzy (a : Byte) (s : State) : Out := staForm (.izy a) s

/-- 86 STX ZP (R135). -/
def execStxZp (a : Byte) (s : State) : Out := stxForm (.zp a) s

/-- 96 STX ZPY (R135). -/
def execStxZpy (a : Byte) (s : State) : Out := stxForm (.zpy a) s

/-- 8E STX ABS (R135). -/
def execStxAbs (a : Word) (s : State) : Out := stxForm (.abs a) s

/-- 84 STY ZP (R136). -/
def execStyZp (a : Byte) (s : State) : Out := styForm (.zp a) s

/-- 94 STY ZPX (R136). -/
def execStyZpx (a : Byte) (s : State) : Out := styForm (.zpx a) s

/-- 8C STY ABS (R136). -/
def execStyAbs (a : Word) (s : State) : Out := styForm (.abs a) s

/-- AA TAX IMP (R137). -/
def execTax (s : State) : Out := .next (loadX s.a s)

/-- A8 TAY IMP (R138). -/
def execTay (s : State) : Out := .next (loadY s.a s)

/-- 8A TXA IMP (R139). -/
def execTxa (s : State) : Out := .next (loadA s.x s)

/-- 98 TYA IMP (R140). -/
def execTya (s : State) : Out := .next (loadA s.y s)

/-- BA TSX IMP (R141). -/
def execTsx (s : State) : Out := .next (loadX s.sp s)

/-- 9A TXS IMP (R142). -/
def execTxs (s : State) : Out := .next (s.setSp s.x)

end Sys2Proof.Machine
end

