-- ==== Sys2Proof/Machine/Shift.lean ====
section
/-! DEFINITION. Shifts and rotates (42_shift_rotate.md R180 to R184): one shared
operation per mnemonic (30_encoding.md R113) and one meaning per opcode. A meaning starts with `PC` at byte 1 (R122) and
answers the state after step 5 of the cycle (R126). -/

namespace Sys2Proof.Machine

/-- `ShiftAcc(core)` (R180). -/
def shiftAcc (core : ShiftCore) (s : State) : State :=
  let (r, c) := core s.a (flag s.p .c)
  (s.setA r).setP (shiftFlags r c s.p)

/-- The flags after `ShiftMem(core)` wrote `r` with carry out `c` (R180). -/
def shiftedMem (r : Byte) (c : Bool) (s : State) : State := s.setP (shiftFlags r c s.p)

/-- A shift's value and carry with the carry the state holds (R180). -/
def withCarry (core : ShiftCore) (v : Byte) (s : State) : Byte × Bool := core v (flag s.p .c)

/-- The memory forms of a shift (R180). -/
def shiftForm (core : ShiftCore) : Operand → State → Out := modifyForm (withCarry core) shiftedMem

/-- 0A ASL ACC (R181). -/
def execAslAcc (s : State) : Out := .next (shiftAcc aslCore s)

/-- 06 ASL ZP (R181). -/
def execAslZp (a : Byte) (s : State) : Out := shiftForm aslCore (.zp a) s

/-- 16 ASL ZPX (R181). -/
def execAslZpx (a : Byte) (s : State) : Out := shiftForm aslCore (.zpx a) s

/-- 0E ASL ABS (R181). -/
def execAslAbs (a : Word) (s : State) : Out := shiftForm aslCore (.abs a) s

/-- 1E ASL ABX (R181). -/
def execAslAbx (a : Word) (s : State) : Out := shiftForm aslCore (.abx a) s

/-- 4A LSR ACC (R182). -/
def execLsrAcc (s : State) : Out := .next (shiftAcc lsrCore s)

/-- 46 LSR ZP (R182). -/
def execLsrZp (a : Byte) (s : State) : Out := shiftForm lsrCore (.zp a) s

/-- 56 LSR ZPX (R182). -/
def execLsrZpx (a : Byte) (s : State) : Out := shiftForm lsrCore (.zpx a) s

/-- 4E LSR ABS (R182). -/
def execLsrAbs (a : Word) (s : State) : Out := shiftForm lsrCore (.abs a) s

/-- 5E LSR ABX (R182). -/
def execLsrAbx (a : Word) (s : State) : Out := shiftForm lsrCore (.abx a) s

/-- 2A ROL ACC (R183). -/
def execRolAcc (s : State) : Out := .next (shiftAcc rolCore s)

/-- 26 ROL ZP (R183). -/
def execRolZp (a : Byte) (s : State) : Out := shiftForm rolCore (.zp a) s

/-- 36 ROL ZPX (R183). -/
def execRolZpx (a : Byte) (s : State) : Out := shiftForm rolCore (.zpx a) s

/-- 2E ROL ABS (R183). -/
def execRolAbs (a : Word) (s : State) : Out := shiftForm rolCore (.abs a) s

/-- 3E ROL ABX (R183). -/
def execRolAbx (a : Word) (s : State) : Out := shiftForm rolCore (.abx a) s

/-- 6A ROR ACC (R184). -/
def execRorAcc (s : State) : Out := .next (shiftAcc rorCore s)

/-- 66 ROR ZP (R184). -/
def execRorZp (a : Byte) (s : State) : Out := shiftForm rorCore (.zp a) s

/-- 76 ROR ZPX (R184). -/
def execRorZpx (a : Byte) (s : State) : Out := shiftForm rorCore (.zpx a) s

/-- 6E ROR ABS (R184). -/
def execRorAbs (a : Word) (s : State) : Out := shiftForm rorCore (.abs a) s

/-- 7E ROR ABX (R184). -/
def execRorAbx (a : Word) (s : State) : Out := shiftForm rorCore (.abx a) s

end Sys2Proof.Machine
end

