-- ==== Sys2Proof/Machine/StackFlags.lean ====
section
/-! DEFINITION. Stack and flag instructions (44_stack_flags.md R220 to R230): one shared
operation per mnemonic (30_encoding.md R113) and one meaning per opcode. A meaning starts with `PC` at byte 1 (R122) and
answers the state after step 5 of the cycle (R126). -/

namespace Sys2Proof.Machine

/-- An instruction that writes the one flag `f` (R224 to R230). -/
def writeFlag (f : Flag) (on : Bool) (s : State) : Out := .next (s.setP (setFlag s.p f on))

/-- 48 PHA IMP (R220). -/
def execPha (s : State) : Out := (push8 s.a s).advance 0

/-- 68 PLA IMP (R221). -/
def execPla (s : State) : Out := ((pop8 s).andThen fun v s => .ok () (loadA v s)).advance 0

/-- 08 PHP IMP (R222). -/
def execPhp (s : State) : Out := (push8 (phpStatus s.p) s).advance 0

/-- 28 PLP IMP (R223). -/
def execPlp (s : State) : Out := ((pop8 s).andThen fun v s => .ok () (s.setP (restoredStatus v))).advance 0

/-- 18 CLC IMP (R224). -/
def execClc (s : State) : Out := writeFlag .c false s

/-- 38 SEC IMP (R225). -/
def execSec (s : State) : Out := writeFlag .c true s

/-- 58 CLI IMP (R226). -/
def execCli (s : State) : Out := writeFlag .i false s

/-- 78 SEI IMP (R227). -/
def execSei (s : State) : Out := writeFlag .i true s

/-- D8 CLD IMP (R228). -/
def execCld (s : State) : Out := writeFlag .d false s

/-- F8 SED IMP (R229). -/
def execSed (s : State) : Out := writeFlag .d true s

/-- B8 CLV IMP (R230). -/
def execClv (s : State) : Out := writeFlag .v false s

end Sys2Proof.Machine
end

