-- ==== Sys2Proof/Machine/Undocumented.lean ====
section
/-! DEFINITION. Undocumented opcodes (45_undocumented.md R240 to R256): one shared
operation per mnemonic (30_encoding.md R113) and one meaning per opcode. A meaning starts with `PC` at byte 1 (R122) and
answers the state after step 5 of the cycle (R126). -/

namespace Sys2Proof.Machine

/-- SLO (R241): ASL memory, then ORA. -/
def sloForm : Operand → State → Out := modifyForm (withCarry aslCore) fun r c s =>
  let s := shiftedMem r c s
  loadA (s.a ||| r) s

/-- RLA (R242): ROL memory, then AND. -/
def rlaForm : Operand → State → Out := modifyForm (withCarry rolCore) fun r c s =>
  let s := shiftedMem r c s
  loadA (s.a &&& r) s

/-- SRE (R243): LSR memory, then EOR. -/
def sreForm : Operand → State → Out := modifyForm (withCarry lsrCore) fun r c s =>
  let s := shiftedMem r c s
  loadA (s.a ^^^ r) s

/-- RRA (R244): ROR memory, then ADC with the rotate's carry. -/
def rraForm : Operand → State → Out := modifyForm (withCarry rorCore) fun r c s => addWithCarry r (shiftedMem r c s)

/-- SAX (R245). -/
def saxForm : Operand → State → Out := storeForm fun s => s.a &&& s.x

/-- LAX (R246): one read into `A` and `X`. -/
def laxForm : Operand → State → Out := readForm fun m s => loadX m (s.setA m)

/-- DCP (R247): DEC memory, then CMP. -/
def dcpForm : Operand → State → Out := modifyForm (fun v _ => (v - 1#8, ())) fun r _ s => compareWith s.a r s

/-- ISB (R248): INC memory, then SBC. -/
def isbForm : Operand → State → Out := modifyForm (fun v _ => (v + 1#8, ())) fun r _ s => addWithCarry (~~~r) s

/-- ANC (R249): AND, then `N` copied into `C`. -/
def ancForm : Operand → State → Out := readForm fun m s => (s.setA (s.a &&& m)).setP (ancFlags (s.a &&& m) s.p)

/-- ALR (R250): AND, then LSR of the accumulator. -/
def alrForm : Operand → State → Out := readForm fun m s => shiftAcc lsrCore (s.setA (s.a &&& m))

/-- ARR (R251): AND, a rotate right whose shifted-out bit is discarded, then its own flags. -/
def arrForm : Operand → State → Out := readForm fun m s =>
  let r := (rorCore (s.a &&& m) (flag s.p .c)).1
  (s.setA r).setP (arrFlags r s.p)

/-- AXS (R252): a compare of `A & X`, the difference to `X`. -/
def axsForm : Operand → State → Out := readForm fun m s => (compareWith (s.a &&& s.x) m s).setX ((s.a &&& s.x) - m)

/-- The reading NOPs (R255, R256): the operand byte is read and discarded. -/
def nopForm : Operand → State → Out := readForm fun _ s => s

/-- 07 SLO ZP (R241). -/
def execSloZp (a : Byte) (s : State) : Out := sloForm (.zp a) s

/-- 17 SLO ZPX (R241). -/
def execSloZpx (a : Byte) (s : State) : Out := sloForm (.zpx a) s

/-- 0F SLO ABS (R241). -/
def execSloAbs (a : Word) (s : State) : Out := sloForm (.abs a) s

/-- 1F SLO ABX (R241). -/
def execSloAbx (a : Word) (s : State) : Out := sloForm (.abx a) s

/-- 1B SLO ABY (R241). -/
def execSloAby (a : Word) (s : State) : Out := sloForm (.aby a) s

/-- 03 SLO IZX (R241). -/
def execSloIzx (a : Byte) (s : State) : Out := sloForm (.izx a) s

/-- 13 SLO IZY (R241). -/
def execSloIzy (a : Byte) (s : State) : Out := sloForm (.izy a) s

/-- 27 RLA ZP (R242). -/
def execRlaZp (a : Byte) (s : State) : Out := rlaForm (.zp a) s

/-- 37 RLA ZPX (R242). -/
def execRlaZpx (a : Byte) (s : State) : Out := rlaForm (.zpx a) s

/-- 2F RLA ABS (R242). -/
def execRlaAbs (a : Word) (s : State) : Out := rlaForm (.abs a) s

/-- 3F RLA ABX (R242). -/
def execRlaAbx (a : Word) (s : State) : Out := rlaForm (.abx a) s

/-- 3B RLA ABY (R242). -/
def execRlaAby (a : Word) (s : State) : Out := rlaForm (.aby a) s

/-- 23 RLA IZX (R242). -/
def execRlaIzx (a : Byte) (s : State) : Out := rlaForm (.izx a) s

/-- 33 RLA IZY (R242). -/
def execRlaIzy (a : Byte) (s : State) : Out := rlaForm (.izy a) s

/-- 47 SRE ZP (R243). -/
def execSreZp (a : Byte) (s : State) : Out := sreForm (.zp a) s

/-- 57 SRE ZPX (R243). -/
def execSreZpx (a : Byte) (s : State) : Out := sreForm (.zpx a) s

/-- 4F SRE ABS (R243). -/
def execSreAbs (a : Word) (s : State) : Out := sreForm (.abs a) s

/-- 5F SRE ABX (R243). -/
def execSreAbx (a : Word) (s : State) : Out := sreForm (.abx a) s

/-- 5B SRE ABY (R243). -/
def execSreAby (a : Word) (s : State) : Out := sreForm (.aby a) s

/-- 43 SRE IZX (R243). -/
def execSreIzx (a : Byte) (s : State) : Out := sreForm (.izx a) s

/-- 53 SRE IZY (R243). -/
def execSreIzy (a : Byte) (s : State) : Out := sreForm (.izy a) s

/-- 67 RRA ZP (R244). -/
def execRraZp (a : Byte) (s : State) : Out := rraForm (.zp a) s

/-- 77 RRA ZPX (R244). -/
def execRraZpx (a : Byte) (s : State) : Out := rraForm (.zpx a) s

/-- 6F RRA ABS (R244). -/
def execRraAbs (a : Word) (s : State) : Out := rraForm (.abs a) s

/-- 7F RRA ABX (R244). -/
def execRraAbx (a : Word) (s : State) : Out := rraForm (.abx a) s

/-- 7B RRA ABY (R244). -/
def execRraAby (a : Word) (s : State) : Out := rraForm (.aby a) s

/-- 63 RRA IZX (R244). -/
def execRraIzx (a : Byte) (s : State) : Out := rraForm (.izx a) s

/-- 73 RRA IZY (R244). -/
def execRraIzy (a : Byte) (s : State) : Out := rraForm (.izy a) s

/-- 87 SAX ZP (R245). -/
def execSaxZp (a : Byte) (s : State) : Out := saxForm (.zp a) s

/-- 97 SAX ZPY (R245). -/
def execSaxZpy (a : Byte) (s : State) : Out := saxForm (.zpy a) s

/-- 8F SAX ABS (R245). -/
def execSaxAbs (a : Word) (s : State) : Out := saxForm (.abs a) s

/-- 83 SAX IZX (R245). -/
def execSaxIzx (a : Byte) (s : State) : Out := saxForm (.izx a) s

/-- A7 LAX ZP (R246). -/
def execLaxZp (a : Byte) (s : State) : Out := laxForm (.zp a) s

/-- B7 LAX ZPY (R246). -/
def execLaxZpy (a : Byte) (s : State) : Out := laxForm (.zpy a) s

/-- AF LAX ABS (R246). -/
def execLaxAbs (a : Word) (s : State) : Out := laxForm (.abs a) s

/-- BF LAX ABY (R246). -/
def execLaxAby (a : Word) (s : State) : Out := laxForm (.aby a) s

/-- A3 LAX IZX (R246). -/
def execLaxIzx (a : Byte) (s : State) : Out := laxForm (.izx a) s

/-- B3 LAX IZY (R246). -/
def execLaxIzy (a : Byte) (s : State) : Out := laxForm (.izy a) s

/-- C7 DCP ZP (R247). -/
def execDcpZp (a : Byte) (s : State) : Out := dcpForm (.zp a) s

/-- D7 DCP ZPX (R247). -/
def execDcpZpx (a : Byte) (s : State) : Out := dcpForm (.zpx a) s

/-- CF DCP ABS (R247). -/
def execDcpAbs (a : Word) (s : State) : Out := dcpForm (.abs a) s

/-- DF DCP ABX (R247). -/
def execDcpAbx (a : Word) (s : State) : Out := dcpForm (.abx a) s

/-- DB DCP ABY (R247). -/
def execDcpAby (a : Word) (s : State) : Out := dcpForm (.aby a) s

/-- C3 DCP IZX (R247). -/
def execDcpIzx (a : Byte) (s : State) : Out := dcpForm (.izx a) s

/-- D3 DCP IZY (R247). -/
def execDcpIzy (a : Byte) (s : State) : Out := dcpForm (.izy a) s

/-- E7 ISB ZP (R248). -/
def execIsbZp (a : Byte) (s : State) : Out := isbForm (.zp a) s

/-- F7 ISB ZPX (R248). -/
def execIsbZpx (a : Byte) (s : State) : Out := isbForm (.zpx a) s

/-- EF ISB ABS (R248). -/
def execIsbAbs (a : Word) (s : State) : Out := isbForm (.abs a) s

/-- FF ISB ABX (R248). -/
def execIsbAbx (a : Word) (s : State) : Out := isbForm (.abx a) s

/-- FB ISB ABY (R248). -/
def execIsbAby (a : Word) (s : State) : Out := isbForm (.aby a) s

/-- E3 ISB IZX (R248). -/
def execIsbIzx (a : Byte) (s : State) : Out := isbForm (.izx a) s

/-- F3 ISB IZY (R248). -/
def execIsbIzy (a : Byte) (s : State) : Out := isbForm (.izy a) s

/-- 0B ANC IMM (R249). -/
def execAncImm0B (v : Byte) (s : State) : Out := ancForm (.imm v) s

/-- 2B ANC IMM (R249). -/
def execAncImm2B (v : Byte) (s : State) : Out := ancForm (.imm v) s

/-- 4B ALR IMM (R250). -/
def execAlrImm (v : Byte) (s : State) : Out := alrForm (.imm v) s

/-- 6B ARR IMM (R251). -/
def execArrImm (v : Byte) (s : State) : Out := arrForm (.imm v) s

/-- CB AXS IMM (R252). -/
def execAxsImm (v : Byte) (s : State) : Out := axsForm (.imm v) s

/-- EB SBC IMM (R253). -/
def execSbcImmEB (v : Byte) (s : State) : Out := sbcForm (.imm v) s

/-- 1A NOP IMP (R254). -/
def execNop1A (s : State) : Out := .next s

/-- 3A NOP IMP (R254). -/
def execNop3A (s : State) : Out := .next s

/-- 5A NOP IMP (R254). -/
def execNop5A (s : State) : Out := .next s

/-- 7A NOP IMP (R254). -/
def execNop7A (s : State) : Out := .next s

/-- DA NOP IMP (R254). -/
def execNopDA (s : State) : Out := .next s

/-- FA NOP IMP (R254). -/
def execNopFA (s : State) : Out := .next s

/-- 80 NOP IMM (R255). -/
def execNopImm80 (v : Byte) (s : State) : Out := nopForm (.imm v) s

/-- 82 NOP IMM (R255). -/
def execNopImm82 (v : Byte) (s : State) : Out := nopForm (.imm v) s

/-- 89 NOP IMM (R255). -/
def execNopImm89 (v : Byte) (s : State) : Out := nopForm (.imm v) s

/-- C2 NOP IMM (R255). -/
def execNopImmC2 (v : Byte) (s : State) : Out := nopForm (.imm v) s

/-- E2 NOP IMM (R255). -/
def execNopImmE2 (v : Byte) (s : State) : Out := nopForm (.imm v) s

/-- 04 NOP ZP (R256). -/
def execNopZp04 (a : Byte) (s : State) : Out := nopForm (.zp a) s

/-- 44 NOP ZP (R256). -/
def execNopZp44 (a : Byte) (s : State) : Out := nopForm (.zp a) s

/-- 64 NOP ZP (R256). -/
def execNopZp64 (a : Byte) (s : State) : Out := nopForm (.zp a) s

/-- 14 NOP ZPX (R256). -/
def execNopZpx14 (a : Byte) (s : State) : Out := nopForm (.zpx a) s

/-- 34 NOP ZPX (R256). -/
def execNopZpx34 (a : Byte) (s : State) : Out := nopForm (.zpx a) s

/-- 54 NOP ZPX (R256). -/
def execNopZpx54 (a : Byte) (s : State) : Out := nopForm (.zpx a) s

/-- 74 NOP ZPX (R256). -/
def execNopZpx74 (a : Byte) (s : State) : Out := nopForm (.zpx a) s

/-- D4 NOP ZPX (R256). -/
def execNopZpxD4 (a : Byte) (s : State) : Out := nopForm (.zpx a) s

/-- F4 NOP ZPX (R256). -/
def execNopZpxF4 (a : Byte) (s : State) : Out := nopForm (.zpx a) s

/-- 0C NOP ABS (R256). -/
def execNopAbs0C (a : Word) (s : State) : Out := nopForm (.abs a) s

/-- 1C NOP ABX (R256). -/
def execNopAbx1C (a : Word) (s : State) : Out := nopForm (.abx a) s

/-- 3C NOP ABX (R256). -/
def execNopAbx3C (a : Word) (s : State) : Out := nopForm (.abx a) s

/-- 5C NOP ABX (R256). -/
def execNopAbx5C (a : Word) (s : State) : Out := nopForm (.abx a) s

/-- 7C NOP ABX (R256). -/
def execNopAbx7C (a : Word) (s : State) : Out := nopForm (.abx a) s

/-- DC NOP ABX (R256). -/
def execNopAbxDC (a : Word) (s : State) : Out := nopForm (.abx a) s

/-- FC NOP ABX (R256). -/
def execNopAbxFC (a : Word) (s : State) : Out := nopForm (.abx a) s

end Sys2Proof.Machine
end

