-- ==== Sys2Proof/Machine/Dispatch.lean ====
section
/-! DEFINITION. Dispatch of an instruction to its meaning, one arm per constructor (30_encoding.md R113). -/

namespace Sys2Proof.Machine

def exec (i : Instr) (s : State) : Host.Outcome State Fault Refusal :=
  match i with
  | .ldaImm v => Sys2Proof.Machine.execLdaImm v s
  | .ldaZp a => Sys2Proof.Machine.execLdaZp a s
  | .ldaZpx a => Sys2Proof.Machine.execLdaZpx a s
  | .ldaAbs a => Sys2Proof.Machine.execLdaAbs a s
  | .ldaAbx a => Sys2Proof.Machine.execLdaAbx a s
  | .ldaAby a => Sys2Proof.Machine.execLdaAby a s
  | .ldaIzx a => Sys2Proof.Machine.execLdaIzx a s
  | .ldaIzy a => Sys2Proof.Machine.execLdaIzy a s
  | .ldxImm v => Sys2Proof.Machine.execLdxImm v s
  | .ldxZp a => Sys2Proof.Machine.execLdxZp a s
  | .ldxZpy a => Sys2Proof.Machine.execLdxZpy a s
  | .ldxAbs a => Sys2Proof.Machine.execLdxAbs a s
  | .ldxAby a => Sys2Proof.Machine.execLdxAby a s
  | .ldyImm v => Sys2Proof.Machine.execLdyImm v s
  | .ldyZp a => Sys2Proof.Machine.execLdyZp a s
  | .ldyZpx a => Sys2Proof.Machine.execLdyZpx a s
  | .ldyAbs a => Sys2Proof.Machine.execLdyAbs a s
  | .ldyAbx a => Sys2Proof.Machine.execLdyAbx a s
  | .staZp a => Sys2Proof.Machine.execStaZp a s
  | .staZpx a => Sys2Proof.Machine.execStaZpx a s
  | .staAbs a => Sys2Proof.Machine.execStaAbs a s
  | .staAbx a => Sys2Proof.Machine.execStaAbx a s
  | .staAby a => Sys2Proof.Machine.execStaAby a s
  | .staIzx a => Sys2Proof.Machine.execStaIzx a s
  | .staIzy a => Sys2Proof.Machine.execStaIzy a s
  | .stxZp a => Sys2Proof.Machine.execStxZp a s
  | .stxZpy a => Sys2Proof.Machine.execStxZpy a s
  | .stxAbs a => Sys2Proof.Machine.execStxAbs a s
  | .styZp a => Sys2Proof.Machine.execStyZp a s
  | .styZpx a => Sys2Proof.Machine.execStyZpx a s
  | .styAbs a => Sys2Proof.Machine.execStyAbs a s
  | .tax => Sys2Proof.Machine.execTax s
  | .tay => Sys2Proof.Machine.execTay s
  | .txa => Sys2Proof.Machine.execTxa s
  | .tya => Sys2Proof.Machine.execTya s
  | .tsx => Sys2Proof.Machine.execTsx s
  | .txs => Sys2Proof.Machine.execTxs s
  | .adcImm v => Sys2Proof.Machine.execAdcImm v s
  | .adcZp a => Sys2Proof.Machine.execAdcZp a s
  | .adcZpx a => Sys2Proof.Machine.execAdcZpx a s
  | .adcAbs a => Sys2Proof.Machine.execAdcAbs a s
  | .adcAbx a => Sys2Proof.Machine.execAdcAbx a s
  | .adcAby a => Sys2Proof.Machine.execAdcAby a s
  | .adcIzx a => Sys2Proof.Machine.execAdcIzx a s
  | .adcIzy a => Sys2Proof.Machine.execAdcIzy a s
  | .sbcImm v => Sys2Proof.Machine.execSbcImm v s
  | .sbcZp a => Sys2Proof.Machine.execSbcZp a s
  | .sbcZpx a => Sys2Proof.Machine.execSbcZpx a s
  | .sbcAbs a => Sys2Proof.Machine.execSbcAbs a s
  | .sbcAbx a => Sys2Proof.Machine.execSbcAbx a s
  | .sbcAby a => Sys2Proof.Machine.execSbcAby a s
  | .sbcIzx a => Sys2Proof.Machine.execSbcIzx a s
  | .sbcIzy a => Sys2Proof.Machine.execSbcIzy a s
  | .andImm v => Sys2Proof.Machine.execAndImm v s
  | .andZp a => Sys2Proof.Machine.execAndZp a s
  | .andZpx a => Sys2Proof.Machine.execAndZpx a s
  | .andAbs a => Sys2Proof.Machine.execAndAbs a s
  | .andAbx a => Sys2Proof.Machine.execAndAbx a s
  | .andAby a => Sys2Proof.Machine.execAndAby a s
  | .andIzx a => Sys2Proof.Machine.execAndIzx a s
  | .andIzy a => Sys2Proof.Machine.execAndIzy a s
  | .oraImm v => Sys2Proof.Machine.execOraImm v s
  | .oraZp a => Sys2Proof.Machine.execOraZp a s
  | .oraZpx a => Sys2Proof.Machine.execOraZpx a s
  | .oraAbs a => Sys2Proof.Machine.execOraAbs a s
  | .oraAbx a => Sys2Proof.Machine.execOraAbx a s
  | .oraAby a => Sys2Proof.Machine.execOraAby a s
  | .oraIzx a => Sys2Proof.Machine.execOraIzx a s
  | .oraIzy a => Sys2Proof.Machine.execOraIzy a s
  | .eorImm v => Sys2Proof.Machine.execEorImm v s
  | .eorZp a => Sys2Proof.Machine.execEorZp a s
  | .eorZpx a => Sys2Proof.Machine.execEorZpx a s
  | .eorAbs a => Sys2Proof.Machine.execEorAbs a s
  | .eorAbx a => Sys2Proof.Machine.execEorAbx a s
  | .eorAby a => Sys2Proof.Machine.execEorAby a s
  | .eorIzx a => Sys2Proof.Machine.execEorIzx a s
  | .eorIzy a => Sys2Proof.Machine.execEorIzy a s
  | .cmpImm v => Sys2Proof.Machine.execCmpImm v s
  | .cmpZp a => Sys2Proof.Machine.execCmpZp a s
  | .cmpZpx a => Sys2Proof.Machine.execCmpZpx a s
  | .cmpAbs a => Sys2Proof.Machine.execCmpAbs a s
  | .cmpAbx a => Sys2Proof.Machine.execCmpAbx a s
  | .cmpAby a => Sys2Proof.Machine.execCmpAby a s
  | .cmpIzx a => Sys2Proof.Machine.execCmpIzx a s
  | .cmpIzy a => Sys2Proof.Machine.execCmpIzy a s
  | .cpxImm v => Sys2Proof.Machine.execCpxImm v s
  | .cpxZp a => Sys2Proof.Machine.execCpxZp a s
  | .cpxAbs a => Sys2Proof.Machine.execCpxAbs a s
  | .cpyImm v => Sys2Proof.Machine.execCpyImm v s
  | .cpyZp a => Sys2Proof.Machine.execCpyZp a s
  | .cpyAbs a => Sys2Proof.Machine.execCpyAbs a s
  | .bitZp a => Sys2Proof.Machine.execBitZp a s
  | .bitAbs a => Sys2Proof.Machine.execBitAbs a s
  | .incZp a => Sys2Proof.Machine.execIncZp a s
  | .incZpx a => Sys2Proof.Machine.execIncZpx a s
  | .incAbs a => Sys2Proof.Machine.execIncAbs a s
  | .incAbx a => Sys2Proof.Machine.execIncAbx a s
  | .decZp a => Sys2Proof.Machine.execDecZp a s
  | .decZpx a => Sys2Proof.Machine.execDecZpx a s
  | .decAbs a => Sys2Proof.Machine.execDecAbs a s
  | .decAbx a => Sys2Proof.Machine.execDecAbx a s
  | .inx => Sys2Proof.Machine.execInx s
  | .iny => Sys2Proof.Machine.execIny s
  | .dex => Sys2Proof.Machine.execDex s
  | .dey => Sys2Proof.Machine.execDey s
  | .aslAcc => Sys2Proof.Machine.execAslAcc s
  | .aslZp a => Sys2Proof.Machine.execAslZp a s
  | .aslZpx a => Sys2Proof.Machine.execAslZpx a s
  | .aslAbs a => Sys2Proof.Machine.execAslAbs a s
  | .aslAbx a => Sys2Proof.Machine.execAslAbx a s
  | .lsrAcc => Sys2Proof.Machine.execLsrAcc s
  | .lsrZp a => Sys2Proof.Machine.execLsrZp a s
  | .lsrZpx a => Sys2Proof.Machine.execLsrZpx a s
  | .lsrAbs a => Sys2Proof.Machine.execLsrAbs a s
  | .lsrAbx a => Sys2Proof.Machine.execLsrAbx a s
  | .rolAcc => Sys2Proof.Machine.execRolAcc s
  | .rolZp a => Sys2Proof.Machine.execRolZp a s
  | .rolZpx a => Sys2Proof.Machine.execRolZpx a s
  | .rolAbs a => Sys2Proof.Machine.execRolAbs a s
  | .rolAbx a => Sys2Proof.Machine.execRolAbx a s
  | .rorAcc => Sys2Proof.Machine.execRorAcc s
  | .rorZp a => Sys2Proof.Machine.execRorZp a s
  | .rorZpx a => Sys2Proof.Machine.execRorZpx a s
  | .rorAbs a => Sys2Proof.Machine.execRorAbs a s
  | .rorAbx a => Sys2Proof.Machine.execRorAbx a s
  | .jmpAbs a => Sys2Proof.Machine.execJmpAbs a s
  | .jmpInd a => Sys2Proof.Machine.execJmpInd a s
  | .jsr a => Sys2Proof.Machine.execJsr a s
  | .rts => Sys2Proof.Machine.execRts s
  | .rti => Sys2Proof.Machine.execRti s
  | .bcc d => Sys2Proof.Machine.execBcc d s
  | .bcs d => Sys2Proof.Machine.execBcs d s
  | .beq d => Sys2Proof.Machine.execBeq d s
  | .bne d => Sys2Proof.Machine.execBne d s
  | .bmi d => Sys2Proof.Machine.execBmi d s
  | .bpl d => Sys2Proof.Machine.execBpl d s
  | .bvc d => Sys2Proof.Machine.execBvc d s
  | .bvs d => Sys2Proof.Machine.execBvs d s
  | .brk => Sys2Proof.Machine.execBrk s
  | .nop => Sys2Proof.Machine.execNop s
  | .pha => Sys2Proof.Machine.execPha s
  | .pla => Sys2Proof.Machine.execPla s
  | .php => Sys2Proof.Machine.execPhp s
  | .plp => Sys2Proof.Machine.execPlp s
  | .clc => Sys2Proof.Machine.execClc s
  | .sec => Sys2Proof.Machine.execSec s
  | .cli => Sys2Proof.Machine.execCli s
  | .sei => Sys2Proof.Machine.execSei s
  | .cld => Sys2Proof.Machine.execCld s
  | .sed => Sys2Proof.Machine.execSed s
  | .clv => Sys2Proof.Machine.execClv s
  | .sloZp a => Sys2Proof.Machine.execSloZp a s
  | .sloZpx a => Sys2Proof.Machine.execSloZpx a s
  | .sloAbs a => Sys2Proof.Machine.execSloAbs a s
  | .sloAbx a => Sys2Proof.Machine.execSloAbx a s
  | .sloAby a => Sys2Proof.Machine.execSloAby a s
  | .sloIzx a => Sys2Proof.Machine.execSloIzx a s
  | .sloIzy a => Sys2Proof.Machine.execSloIzy a s
  | .rlaZp a => Sys2Proof.Machine.execRlaZp a s
  | .rlaZpx a => Sys2Proof.Machine.execRlaZpx a s
  | .rlaAbs a => Sys2Proof.Machine.execRlaAbs a s
  | .rlaAbx a => Sys2Proof.Machine.execRlaAbx a s
  | .rlaAby a => Sys2Proof.Machine.execRlaAby a s
  | .rlaIzx a => Sys2Proof.Machine.execRlaIzx a s
  | .rlaIzy a => Sys2Proof.Machine.execRlaIzy a s
  | .sreZp a => Sys2Proof.Machine.execSreZp a s
  | .sreZpx a => Sys2Proof.Machine.execSreZpx a s
  | .sreAbs a => Sys2Proof.Machine.execSreAbs a s
  | .sreAbx a => Sys2Proof.Machine.execSreAbx a s
  | .sreAby a => Sys2Proof.Machine.execSreAby a s
  | .sreIzx a => Sys2Proof.Machine.execSreIzx a s
  | .sreIzy a => Sys2Proof.Machine.execSreIzy a s
  | .rraZp a => Sys2Proof.Machine.execRraZp a s
  | .rraZpx a => Sys2Proof.Machine.execRraZpx a s
  | .rraAbs a => Sys2Proof.Machine.execRraAbs a s
  | .rraAbx a => Sys2Proof.Machine.execRraAbx a s
  | .rraAby a => Sys2Proof.Machine.execRraAby a s
  | .rraIzx a => Sys2Proof.Machine.execRraIzx a s
  | .rraIzy a => Sys2Proof.Machine.execRraIzy a s
  | .saxZp a => Sys2Proof.Machine.execSaxZp a s
  | .saxZpy a => Sys2Proof.Machine.execSaxZpy a s
  | .saxAbs a => Sys2Proof.Machine.execSaxAbs a s
  | .saxIzx a => Sys2Proof.Machine.execSaxIzx a s
  | .laxZp a => Sys2Proof.Machine.execLaxZp a s
  | .laxZpy a => Sys2Proof.Machine.execLaxZpy a s
  | .laxAbs a => Sys2Proof.Machine.execLaxAbs a s
  | .laxAby a => Sys2Proof.Machine.execLaxAby a s
  | .laxIzx a => Sys2Proof.Machine.execLaxIzx a s
  | .laxIzy a => Sys2Proof.Machine.execLaxIzy a s
  | .dcpZp a => Sys2Proof.Machine.execDcpZp a s
  | .dcpZpx a => Sys2Proof.Machine.execDcpZpx a s
  | .dcpAbs a => Sys2Proof.Machine.execDcpAbs a s
  | .dcpAbx a => Sys2Proof.Machine.execDcpAbx a s
  | .dcpAby a => Sys2Proof.Machine.execDcpAby a s
  | .dcpIzx a => Sys2Proof.Machine.execDcpIzx a s
  | .dcpIzy a => Sys2Proof.Machine.execDcpIzy a s
  | .isbZp a => Sys2Proof.Machine.execIsbZp a s
  | .isbZpx a => Sys2Proof.Machine.execIsbZpx a s
  | .isbAbs a => Sys2Proof.Machine.execIsbAbs a s
  | .isbAbx a => Sys2Proof.Machine.execIsbAbx a s
  | .isbAby a => Sys2Proof.Machine.execIsbAby a s
  | .isbIzx a => Sys2Proof.Machine.execIsbIzx a s
  | .isbIzy a => Sys2Proof.Machine.execIsbIzy a s
  | .ancImm0B v => Sys2Proof.Machine.execAncImm0B v s
  | .ancImm2B v => Sys2Proof.Machine.execAncImm2B v s
  | .alrImm v => Sys2Proof.Machine.execAlrImm v s
  | .arrImm v => Sys2Proof.Machine.execArrImm v s
  | .axsImm v => Sys2Proof.Machine.execAxsImm v s
  | .sbcImmEB v => Sys2Proof.Machine.execSbcImmEB v s
  | .nop1A => Sys2Proof.Machine.execNop1A s
  | .nop3A => Sys2Proof.Machine.execNop3A s
  | .nop5A => Sys2Proof.Machine.execNop5A s
  | .nop7A => Sys2Proof.Machine.execNop7A s
  | .nopDA => Sys2Proof.Machine.execNopDA s
  | .nopFA => Sys2Proof.Machine.execNopFA s
  | .nopImm80 v => Sys2Proof.Machine.execNopImm80 v s
  | .nopImm82 v => Sys2Proof.Machine.execNopImm82 v s
  | .nopImm89 v => Sys2Proof.Machine.execNopImm89 v s
  | .nopImmC2 v => Sys2Proof.Machine.execNopImmC2 v s
  | .nopImmE2 v => Sys2Proof.Machine.execNopImmE2 v s
  | .nopZp04 a => Sys2Proof.Machine.execNopZp04 a s
  | .nopZp44 a => Sys2Proof.Machine.execNopZp44 a s
  | .nopZp64 a => Sys2Proof.Machine.execNopZp64 a s
  | .nopZpx14 a => Sys2Proof.Machine.execNopZpx14 a s
  | .nopZpx34 a => Sys2Proof.Machine.execNopZpx34 a s
  | .nopZpx54 a => Sys2Proof.Machine.execNopZpx54 a s
  | .nopZpx74 a => Sys2Proof.Machine.execNopZpx74 a s
  | .nopZpxD4 a => Sys2Proof.Machine.execNopZpxD4 a s
  | .nopZpxF4 a => Sys2Proof.Machine.execNopZpxF4 a s
  | .nopAbs0C a => Sys2Proof.Machine.execNopAbs0C a s
  | .nopAbx1C a => Sys2Proof.Machine.execNopAbx1C a s
  | .nopAbx3C a => Sys2Proof.Machine.execNopAbx3C a s
  | .nopAbx5C a => Sys2Proof.Machine.execNopAbx5C a s
  | .nopAbx7C a => Sys2Proof.Machine.execNopAbx7C a s
  | .nopAbxDC a => Sys2Proof.Machine.execNopAbxDC a s
  | .nopAbxFC a => Sys2Proof.Machine.execNopAbxFC a s

end Sys2Proof.Machine
end

