-- ==== Sys2Proof/Machine/Cycle.lean ====
section
/-! DEFINITION. The instruction cycle (35_instruction_cycle.md R120 to R128): fetch, decode, execute, tick, NMI poll. -/

namespace Sys2Proof.Machine

/-- `n` bus reads at consecutive wrapping addresses, in rising order (R58, R62). -/
def fetchBytes : Nat → Word → State → Access (List Byte)
  | 0, _, s => .ok [] s
  | n + 1, addr, s =>
    (busRead addr s).andThen fun b s => (fetchBytes n (addr + 1#16) s).andThen fun bs s => .ok (b :: bs) s

/-- The instruction at `PC`, its descriptor, and the state with `PC` at byte 1 (R121, R122, R124). The opcode is looked
up before `PC` moves, so at an unknown opcode `PC` still holds its address; the operand bytes are read before anything
else the instruction does (R62; log 2). -/
def fetchInstr (s : State) : Access (Descriptor × Instr) :=
  (busRead s.pc s).andThen fun op t =>
  match optable op with
  | none => raise (.unknownOpcode op s.pc) t
  | some d =>
    (fetchBytes d.format.operandBytes (s.pc + 1#16) (t.setPc (s.pc + 1#16))).andThen fun bs t =>
    match decode (op :: bs) with
    | .ok (i, _) => .ok (d, i) t
    | .error _ => raise (.unknownOpcode op s.pc) t

/-- The PPU tick of a completed instruction of `cycles` CPU cycles (R127), and the frame pulse. -/
def tickPpu (cycles : Nat) (s : State) : State :=
  let (q, frame) := ppuTick (Params.ppuCyclesPerCpuCycle * cycles) s.ppu
  (s.setPpu q).setFrameComplete frame

/-- Step 6 of the cycle (R120): the tick and the NMI poll, neither of them in a step that halted or faulted. -/
def endCycle (cycles : Nat) (s : State) : State :=
  if s.run = .running then pollNmi (tickPpu cycles s) else s

/-- `Step()` (R120), defined only while `run` is Running (R19). -/
def runCycle (s : State) : Out :=
  if s.run = .running then
    match fetchInstr (s.setFrameComplete false) with
    | .stop t => .next t
    | .ok (d, i) t =>
      match exec i t with
      | .next u => .next (endCycle d.cycles u)
      | .fault r => .fault r
      | .refused r => .refused r
  else .fault (.notRunning s.run)

end Sys2Proof.Machine
end

