-- ==== Sys2Proof/Machine/Loader.lean ====
section
/-! DEFINITION. Placing bytes where the next fetch finds them, for a program loaded from outside the machine
(70_reset_and_hazards.md R352; log 4). -/

namespace Sys2Proof.Machine

/-- A byte can be placed at `addr`: the address is RAM or program ROM. -/
def placeable (addr : Word) : Bool := decide (addr.toNat ≤ 0x1FFF ∨ 0x8000 ≤ addr.toNat)

/-- The state with `v` at CPU address `addr`, in RAM or in the program image. -/
def placeByte (addr : Word) (v : Byte) (s : State) : State :=
  if addr.toNat ≤ 0x1FFF then s.setRam (s.ram.write (ramIndex addr) v)
  else if 0x8000 ≤ addr.toNat then
    s.setCart { s.cart with prg := s.cart.prg.write (s.cart.prgIndex addr) v }
  else s

/-- The state with `bs` at consecutive addresses from `addr`. -/
def placeBytes : Word → List Byte → State → State
  | _, [], s => s
  | addr, b :: bs, s => placeBytes (addr + 1#16) bs (placeByte addr b s)

/-- The state in which a three-byte instruction can be placed at `PC`: `PC` stays where it can, else it becomes 0x0000,
since nothing can be placed in the port window or in the unmapped range. -/
def atPlaceable (s : State) : State :=
  if placeable s.pc && placeable (s.pc + 1#16) && placeable (s.pc + 2#16) then s else s.setPc 0x0000#16

end Sys2Proof.Machine
end

