-- ==== Sys2Proof/Machine/Step.lean ====
section
/-! DEFINITION. The step of the machine, and placing the instruction the next step runs. -/

namespace Sys2Proof.Machine

/-- One `Step()` (35_instruction_cycle.md R120). -/
def step (s : State) : Host.Outcome State Fault Refusal := runCycle s

/-- `s` with the instruction whose low `nbits` bits are `w` placed where `step` fetches next, and `run` Running (log 4). -/
def State.withFetchWord (s : State) (nbits w : Nat) : State :=
  let t := (atPlaceable s).setRun .running
  placeBytes t.pc (tableBytes nbits w) t

end Sys2Proof.Machine
end

