-- ==== Sys2Proof/Machine/HostOps.lean ====
section
/-! DEFINITION. The host operations beside the step (00_scope.md R7): Construct, Reset and Run. -/

namespace Sys2Proof.Machine

/-- The program image's size, if its length is legal (R5, D23). -/
def prgSizeOf (bytes : Nat) : Option PrgSize :=
  if bytes = 0x4000 then some .kb16 else if bytes = 0x8000 then some .kb32 else none

/-- `Construct(PRG_ROM, CHR_ROM, MIRRORING)` followed by `Reset()` (R5, R7, R364); other image sizes are refused. -/
def construct (prg chr : List Byte) (m : Mirroring) : Out :=
  match prgSizeOf prg.length, decide (chr.length = 0x2000) with
  | some size, true => .next (.resetWith ⟨size, Memory.ofBytes 0 prg, Memory.ofBytes 0 chr, m⟩)
  | _, _ => .refused .badImageSize

/-- `Reset()` (70_reset_and_hazards.md R350): the configuration stays, everything else takes its reset value. -/
def hostReset (s : State) : State := .resetWith s.cart

/-- `Observe()` (60_exceptions.md R336): the view of the whole state a host may take at the start of a step. It has no
side effect, on the ports neither, and no step depends on it (log 6). -/
def observe (s : State) : State := s

/-- `Run()` for at most `fuel` steps (35_instruction_cycle.md R129): it ends in the first state whose `run` is not
Running. -/
def runFor : Nat → State → Out
  | 0, s => .next s
  | fuel + 1, s =>
    if s.run = .running then
      match step s with
      | .next t => runFor fuel t
      | .fault r => .fault r
      | .refused r => .refused r
    else .next s

end Sys2Proof.Machine
end

