-- ==== Sys2Proof/Safety.lean ====
section
/-! DEFINITION. What counts as a safe run and a successful end, and the invariant of the machine. -/

namespace Sys2Proof.Machine

/-- The three fatal faults (60_exceptions.md R320). -/
def RunStatus.fatal : RunStatus → Bool
  | .running => false
  | .haltedBrk => false
  | .unknownOpcode _ _ => true
  | .contractViolation => true
  | .vramRange _ => true

/-- A successful end: halted by BRK with no rejected write recorded (35_instruction_cycle.md R129, R324). -/
abbrev State.successfulEnd (s : State) : Prop := s.run = .haltedBrk ∧ s.report.count = 0

/-- No fatal fault and no rejected write within the first `n` steps from `s`. -/
def SafeRun (n : Nat) (s : State) : Prop :=
  ∀ k ≤ n, ∀ t, runFor k s = .next t → t.run.fatal = false ∧ t.report.count = 0

/-- Every store has its canonical form and its size (10_state.md R21 to R26). -/
structure State.StoresWf (s : State) : Prop where
  ram : s.ram.wf ∧ s.ram.within Params.ramSize
  vram : s.ppu.vram.wf ∧ s.ppu.vram.within Params.vramSize
  palette : s.ppu.palette.wf ∧ s.ppu.palette.within Params.paletteSize
  oam : s.ppu.oam.wf ∧ s.ppu.oam.within Params.oamSize
  cart : s.cart.wf

/-- What holds of every state a run from reset passes through, between steps. -/
structure State.Inv (s : State) : Prop where
  /-- The stores are well-formed. -/
  stores : s.StoresWf
  /-- The Address register is within its 14 bits (R31). -/
  addr : s.ppu.addr.toNat ≤ 0x3FFF
  /-- Status holds 0x00 or 0x80 (R275). -/
  status : s.ppu.status = 0x00#8 ∨ s.ppu.status = 0x80#8
  /-- The live Break flag is 0 and the live Break2 flag is 1 (R17). -/
  break_ : flag s.p .b = false ∧ flag s.p .u = true
  /-- The scanline counter is within the frame (R36). -/
  scanLine : s.ppu.scanLine < Params.scanlinesPerFrame
  /-- The cycle counter is within the scanline (R37). -/
  cycleCounter : s.ppu.cycleCounter < Params.cyclesPerScanline
  /-- No NMI request is pending at an instruction boundary (R128, R357). -/
  nmiTaken : s.run = .running → s.ppu.nmiLatch = false

end Sys2Proof.Machine
end

