-- ==== Sys2Proof/Certificates/Slice0/Obligations.lean ====
section
/-! DEFINITION. The statements for the provers. A statement about an instruction starts, as `exec` does, in a state
whose `PC` is the address of byte 1 of the instruction (35_instruction_cycle.md R122), and its next state is the state
after step 5 of the cycle (R126); the tick and the NMI poll of step 6 belong to `step`. `[decision: Dn]` and
`[from general knowledge]` marks of a cited rule are named in the docstring. -/

namespace Sys2Proof.Statements

open Sys2Proof.Machine

/-- The instruction's length is passed: `PC` moves from byte 1 past the operand bytes (R126). -/
def advanced (i : Instr) (t : State) : State := { t with pc := t.pc + BitVec.ofNat 16 i.operand.operandBytes }

/-- The opcode map gives the mnemonic exactly the encodings `rows`, each a byte value and a format (R106, R107): an
instruction of the mnemonic has one of them, and each of them decodes to an instruction of the mnemonic. -/
def EncodedAs (m : Mnemonic) (rows : List (Byte × Format)) : Prop :=
  (∀ i : Instr, i.mnemonic = m → (i.opcode, i.operand.format) ∈ rows) ∧
  ∀ r ∈ rows, ∀ b1 b2 : Byte, ∃ i rest, decode [r.1, b1, b2] = .ok (i, rest) ∧ i.mnemonic = m ∧ i.operand.format = r.2

/-- The instruction reads its operand byte `m` and ends in `after m`, `PC` past the operand bytes. It completes
wherever the operand can be read: always unless the cartridge is FourScreen and the operand is not immediate. A read
that raises the fatal VramRange fault (R296; log 7) ends the step there and nothing else happens (R320). -/
def Reads (i : Instr) (s : State) (after : Byte → State → State) : Prop :=
  ((s.cart.mirroring = .fourScreen → i.operand.format = .imm) →
    ∃ m u, readOperand i.operand s = .ok m u ∧ exec i s = .next (advanced i (after m u))) ∧
  (∀ m u, readOperand i.operand s = .ok m u → exec i s = .next (advanced i (after m u))) ∧
  ∀ u, readOperand i.operand s = .stop u → exec i s = .next u

/-- The instruction resolves its effective address with no side effect, writes `value` there, with no read of it before,
and ends with `PC` past the operand bytes. It completes unless the write raises VramRange, which needs a FourScreen
cartridge (R296; log 7); then the step ends there (R320). -/
def Stores (i : Instr) (s : State) (value : Byte) : Prop :=
  ∃ ea, resolve i.operand s = .ok ea s ∧
    (s.cart.mirroring ≠ .fourScreen → ∃ t, busWrite ea value s = .ok () t ∧ exec i s = .next (advanced i t)) ∧
    (∀ t, busWrite ea value s = .ok () t → exec i s = .next (advanced i t)) ∧
    ∀ t, busWrite ea value s = .stop t → exec i s = .next t

/-- The instruction resolves its effective address with no side effect, reads the byte `v` there once, writes `new v`
there once, and ends in `after v`, `PC` past the operand bytes. It completes unless an access raises VramRange, which
needs a FourScreen cartridge (R296; log 7); then the step ends there (R320). -/
def Modifies (i : Instr) (s : State) (new : Byte → Byte) (after : Byte → State → State) : Prop :=
  ∃ ea, resolve i.operand s = .ok ea s ∧
    (s.cart.mirroring ≠ .fourScreen → ∃ v w t, busRead ea s = .ok v w ∧ busWrite ea (new v) w = .ok () t ∧
      exec i s = .next (advanced i (after v t))) ∧
    (∀ v w t, busRead ea s = .ok v w → busWrite ea (new v) w = .ok () t →
      exec i s = .next (advanced i (after v t))) ∧
    (∀ v w t, busRead ea s = .ok v w → busWrite ea (new v) w = .stop t → exec i s = .next t) ∧
    ∀ w, busRead ea s = .stop w → exec i s = .next w

/-- The index in `ram` of the stack cell `sp` points at (R13). -/
def stackIndex (sp : Byte) : Nat := 0x100 + sp.toNat

/-- The 20 unknown opcodes (R108). -/
def unknownOpcodes : List Byte :=
  [0x02#8, 0x12#8, 0x22#8, 0x32#8, 0x42#8, 0x52#8, 0x62#8, 0x72#8, 0x92#8, 0xB2#8, 0xD2#8, 0xF2#8,
   0x8B#8, 0x93#8, 0x9B#8, 0x9C#8, 0x9E#8, 0x9F#8, 0xAB#8, 0xBB#8]

/-- The cycle counts of the lists of R106 and R107, one row for each high digit of the opcode; 0 for an unknown opcode. -/
def cycleRows : List (List Nat) := [
  [7, 6, 0, 8, 3, 3, 5, 5, 3, 2, 2, 2, 4, 4, 6, 6],
  [2, 5, 0, 8, 4, 4, 6, 6, 2, 4, 2, 7, 4, 4, 7, 7],
  [6, 6, 0, 8, 3, 3, 5, 5, 4, 2, 2, 2, 4, 4, 6, 6],
  [2, 5, 0, 8, 4, 4, 6, 6, 2, 4, 2, 7, 4, 4, 7, 7],
  [6, 6, 0, 8, 3, 3, 5, 5, 3, 2, 2, 2, 3, 4, 6, 6],
  [2, 5, 0, 8, 4, 4, 6, 6, 2, 4, 2, 7, 4, 4, 7, 7],
  [6, 6, 0, 8, 3, 3, 5, 5, 4, 2, 2, 2, 5, 4, 6, 6],
  [2, 5, 0, 8, 4, 4, 6, 6, 2, 4, 2, 7, 4, 4, 7, 7],
  [2, 6, 2, 6, 3, 3, 3, 3, 2, 2, 2, 0, 4, 4, 4, 4],
  [2, 6, 0, 0, 4, 4, 4, 4, 2, 5, 2, 0, 0, 5, 0, 0],
  [2, 6, 2, 6, 3, 3, 3, 3, 2, 2, 2, 0, 4, 4, 4, 4],
  [2, 5, 0, 5, 4, 4, 4, 4, 2, 4, 2, 0, 4, 4, 4, 4],
  [2, 6, 2, 8, 3, 3, 5, 5, 2, 2, 2, 2, 4, 4, 6, 6],
  [2, 5, 0, 8, 4, 4, 6, 6, 2, 4, 2, 7, 4, 4, 7, 7],
  [2, 6, 2, 8, 3, 3, 5, 5, 2, 2, 2, 2, 4, 4, 6, 6],
  [2, 5, 0, 8, 4, 4, 6, 6, 2, 4, 2, 7, 4, 4, 7, 7]]

/-- The cycle count the lists give an opcode. -/
def cycleCount (op : Byte) : Nat := (cycleRows.getD (op.toNat / 16) []).getD (op.toNat % 16) 0

/-- The address of the second byte the Indirect mode reads, in the page of the first (R101). -/
def pointerSecond (w : Word) : Word := if w &&& 0x00FF#16 = 0x00FF#16 then w &&& 0xFF00#16 else w + 1#16

/-- The addresses an instruction reads or writes after its own bytes and beside the stack and the page-zero pointers,
which are RAM: the bytes of an indirect jump's pointer, or the effective address of an operand. The Immediate operand
and the targets of JMP and JSR are not accessed. -/
def dataAddresses (i : Instr) (s : State) : List Word :=
  match i.operand with
  | .imp | .acc | .imm _ | .rel _ => []
  | .ind w => [w, pointerSecond w]
  | o =>
    if i.mnemonic = .jmp ∨ i.mnemonic = .jsr then [] else
    match resolve o s with
    | .ok ea _ => [ea]
    | .stop _ => []

/-- The bytes pushed one after the other. -/
def pushAll : List Byte → State → Access Unit
  | [], s => .ok () s
  | v :: vs, s => (push8 v s).andThen fun _ s => pushAll vs s

/-- `n` bytes popped one after the other. -/
def popMany : Nat → State → Access (List Byte)
  | 0, s => .ok [] s
  | n + 1, s => (pop8 s).andThen fun v s => (popMany n s).andThen fun vs s => .ok (v :: vs) s

/-- The flags an instruction's rule lists under "Flags" (files 40 to 45). -/
def flagsWritten : Mnemonic → List Flag
  | .lda | .ldx | .ldy | .lax | .tax | .tay | .txa | .tya | .tsx | .pla => [.z, .n]
  | .and | .ora | .eor | .inc | .dec | .inx | .iny | .dex | .dey => [.z, .n]
  | .adc | .sbc | .rra | .isb | .arr => [.c, .v, .z, .n]
  | .cmp | .cpx | .cpy | .dcp | .axs => [.c, .z, .n]
  | .asl | .lsr | .rol | .ror | .slo | .rla | .sre | .anc | .alr => [.c, .z, .n]
  | .bit => [.z, .n, .v]
  | .plp | .rti => [.c, .z, .i, .d, .b, .u, .v, .n]
  | .clc | .sec => [.c]
  | .cli | .sei => [.i]
  | .cld | .sed => [.d]
  | .clv => [.v]
  | .sta | .stx | .sty | .sax | .txs | .pha | .php | .jmp | .jsr | .rts | .nop | .brk => []
  | .bcc | .bcs | .beq | .bne | .bmi | .bpl | .bvc | .bvs => []

/-- The mnemonics that only store: no read of the effective address (R134 to R136, R245). -/
def storing : List Mnemonic := [.sta, .stx, .sty, .sax]

/-- The mnemonics whose memory forms read and then write their effective address (R62). -/
def modifying : List Mnemonic :=
  [.inc, .dec, .asl, .lsr, .rol, .ror, .slo, .rla, .sre, .rra, .dcp, .isb]

/-- The effective address an instruction stores to, computed by the mode its meaning resolves; none for a form that
stores to no effective address. -/
def storeTarget (i : Instr) (s : State) : Option Word :=
  if i.mnemonic ∈ storing ∨ i.mnemonic ∈ modifying then
    match resolve i.operand s with
    | .ok ea _ => some ea
    | .stop _ => none
  else none

/-- The indices of `ram` an instruction stores to: the effective address below 0x2000, or the stack cells it pushes. -/
def ramStores (i : Instr) (s : State) : List Nat :=
  match i.mnemonic with
  | .pha | .php => [stackIndex s.sp]
  | .jsr => [stackIndex s.sp, stackIndex (s.sp - 1#8)]
  | _ =>
    match storeTarget i s with
    | some ea => if ea.toNat ≤ 0x1FFF then [(ea &&& 0x07FF#16).toNat] else []
    | none => []

/-- The PPU port an instruction stores to, if any (R54). -/
def portStored (i : Instr) (s : State) : Option Nat :=
  match storeTarget i s with
  | some ea => if 0x2000 ≤ ea.toNat ∧ ea.toNat ≤ 0x3FFF then some (ea &&& 7#16).toNat else none
  | none => none

/-- The PPU address of a data-port write of the instruction: that of the Address register, which the read of a
read-modify-write instruction has incremented first (R281, R355). -/
def dataPortAddress (i : Instr) (s : State) : Word :=
  if i.mnemonic ∈ modifying then (vramIncrement s.ppu).addr else s.ppu.addr

/-- The PPU registers and counters an access of port 2 or 7 by a reading instruction cannot change. -/
def SamePpuApartFromPortReads (q r : Ppu) : Prop :=
  r.ctrl = q.ctrl ∧ r.mask = q.mask ∧ r.oamAddr = q.oamAddr ∧ r.scrollX = q.scrollX ∧ r.scrollY = q.scrollY ∧
  r.scanLine = q.scanLine ∧ r.cycleCounter = q.cycleCounter ∧ r.nmiLatch = q.nmiLatch ∧
  r.vram = q.vram ∧ r.palette = q.palette ∧ r.oam = q.oam

/-- The place of the PPU within the frame, in PPU cycles since the frame began (R289, R362). -/
def framePosition (q : Ppu) : Nat := q.scanLine * 341 + q.cycleCounter

end Sys2Proof.Statements

open Sys2Proof Sys2Proof.Machine Sys2Proof.Statements

/-! ## Encoding -/

/-- Words written out from the encodings of R106 and R107, with the byte order of R91. -/
def Obligations.ExampleWordsDecode : Prop :=
  decode [0xA9#8, 0x05#8] = .ok (.ldaImm 0x05#8, []) ∧ decode [0xAA#8, 0xE8#8] = .ok (.tax, [0xE8#8]) ∧
  decode [0xA2#8, 0xFF#8] = .ok (.ldxImm 0xFF#8, []) ∧ decode [0x95#8, 0x28#8] = .ok (.staZpx 0x28#8, []) ∧
  decode [0x11#8, 0x33#8] = .ok (.oraIzy 0x33#8, []) ∧ decode [0xC7#8, 0x10#8] = .ok (.dcpZp 0x10#8, []) ∧
  decode [0x6C#8, 0xFF#8, 0x02#8] = .ok (.jmpInd 0x02FF#16, []) ∧
  decode [0x20#8, 0x10#8, 0x80#8] = .ok (.jsr 0x8010#16, []) ∧ decode [0x2E#8, 0x00#8, 0x03#8] = .ok (.rolAbs 0x0300#16, []) ∧
  decode [0x00#8] = .ok (.brk, []) ∧ decode [0x48#8] = .ok (.pha, [])

/-- R90, R91: decoding what the encoder writes gives the instruction back, every operand at every value, and leaves the
bytes after it. -/
def Obligations.DecodeGivesBackTheEncodedInstruction : Prop :=
  ∀ (i : Instr) (rest : List Byte), decode (encode i ++ rest) = .ok (i, rest)

/-- R90: bytes that decode are the encoding of the instruction they decode to, so no two encodings meet. -/
def Obligations.DecodedBytesAreTheEncoding : Prop :=
  ∀ (bs rest : List Byte) (i : Instr), decode bs = .ok (i, rest) → bs = encode i ++ rest

/-- R92, R106, R107, R108, R112: every instruction has the descriptor of its opcode byte, which gives its length and
the cycle count of the lists, 2 to 8; the byte values without a descriptor are the 20 unknown opcodes, which the decoder
rejects by name. The cycle counts are the spec's decision D3, the set of unknown opcodes D7. -/
def Obligations.DescriptorsAndUnknownOpcodes : Prop :=
  (∀ i : Instr, ∃ d, optable i.opcode = some d ∧ d.mnemonic = i.mnemonic ∧ d.format = i.operand.format ∧
    (encode i).length = 1 + d.format.operandBytes ∧ d.cycles = cycleCount i.opcode ∧ 2 ≤ d.cycles ∧ d.cycles ≤ 8) ∧
  ∀ (op : Byte) (rest : List Byte), (optable op = none ↔ op ∈ unknownOpcodes) ∧
    (op ∈ unknownOpcodes → decode (op :: rest) = .error (.unknownOpcode op))

/-! ## Reset and the invariant -/

/-- R350, R351: what Reset leaves, for every cartridge. The values are the spec's decisions D10 and D11; the pulse
`frameComplete` is the model's own field (log 5), and its value here the model's choice. -/
def Obligations.ResetLeavesTheResetValues : Prop :=
  ∀ c : Cartridge, let s := State.resetWith c
    s.a = 0x00#8 ∧ s.x = 0x00#8 ∧ s.y = 0x00#8 ∧ s.sp = 0xFD#8 ∧ s.p = 0x24#8 ∧ s.run = .running ∧
    s.report = ⟨0, none⟩ ∧ s.cart = c ∧ s.frameComplete = false ∧
    (∀ k, s.ram.read k = 0x00#8 ∧ s.ppu.vram.read k = 0x00#8 ∧ s.ppu.palette.read k = 0x00#8 ∧ s.ppu.oam.read k = 0x00#8) ∧
    s.ppu.ctrl = 0x00#8 ∧ s.ppu.mask = 0x00#8 ∧ s.ppu.status = 0x00#8 ∧ s.ppu.oamAddr = 0x00#8 ∧
    s.ppu.addr = 0x0000#16 ∧ s.ppu.addrLatch = .first ∧ s.ppu.scrollX = 0x00#8 ∧ s.ppu.scrollY = 0x00#8 ∧
    s.ppu.scrollLatch = .first ∧ s.ppu.readBuffer = 0x00#8 ∧ s.ppu.scanLine = 0 ∧ s.ppu.cycleCounter = 0 ∧
    s.ppu.nmiLatch = false ∧ read16 0xFFFC#16 s = .ok s.pc s ∧ hostReset s = s

/-- R5 (the exact lengths are the spec's decision D23): Construct takes a program image of 0x4000 or 0x8000 bytes and a
character image of 0x2000, holds exactly those bytes and that Mirroring, well-formed, and leaves the core reset; any
other image is refused. -/
def Obligations.ConstructHoldsTheImagesOrRefuses : Prop :=
  ∀ (prg chr : List Byte) (m : Mirroring),
    ((prg.length = 0x4000 ∨ prg.length = 0x8000) → chr.length = 0x2000 → ∃ c : Cartridge,
      construct prg chr m = .next (.resetWith c) ∧ c.wf ∧ c.prgSize.bytes = prg.length ∧ c.mirroring = m ∧
      (∀ k, c.prg.read k = prg.getD k 0x00#8) ∧ ∀ k, c.chr.read k = chr.getD k 0x00#8) ∧
    (¬ (prg.length = 0x4000 ∨ prg.length = 0x8000) ∨ chr.length ≠ 0x2000 →
      construct prg chr m = .refused .badImageSize)

/-- The invariant holds after reset with any cartridge of legal images. -/
def Obligations.ResetMeetsTheInvariant : Prop := ∀ c : Cartridge, c.wf → (State.resetWith c).Inv

/-- Every step keeps the invariant: the stores keep their canonical form and size, the Address register its range (R31),
Status its two values (R275), the live Break and Break2 their fixed values (R17), the counters their ranges (R36, R37),
and no NMI request is left pending (R128). -/
def Obligations.StepKeepsTheInvariant : Prop := ∀ s t : State, s.Inv → step s = .next t → t.Inv

/-- R5, R22, R23: no step and no Reset changes the configuration. -/
def Obligations.StepKeepsTheCartridge : Prop :=
  ∀ s t : State, (step s = .next t → t.cart = s.cart) ∧ (hostReset s).cart = s.cart

/-! ## The bus -/

/-- R53: the RAM window. After a write through any mirror, every mirror of the cell reads the byte written and every
other cell what it held; nothing but `ram` changes, and RAM reads have no side effects. -/
def Obligations.RamWindowIsMirrored : Prop :=
  (∀ (a b : Word) (v : Byte) (s : State), a.toNat ≤ 0x1FFF → b.toNat ≤ 0x1FFF →
    ∃ t, busWrite a v s = .ok () t ∧ t = { s with ram := t.ram } ∧
      busRead b t = .ok (if b &&& 0x07FF#16 = a &&& 0x07FF#16 then v else s.ram.read (b &&& 0x07FF#16).toNat) t ∧
      busRead b s = .ok (s.ram.read (b &&& 0x07FF#16).toNat) s) ∧
  ∀ (a : Word) (s : State), a.toNat < 0x0800 →
    busRead (a + 0x0800#16) s = busRead a s ∧ busRead (a + 0x1000#16) s = busRead a s ∧
    busRead (a + 0x1800#16) s = busRead a s

/-- R54, R55, R56, R270: every address of 0x2000 to 0x3FFF reaches the port its low three bits name; program ROM
reads, a 16 KB image seen twice; addresses 0x4000 to 0x7FFF read 0x00 and ignore writes, recording nothing (D29). R287,
R288 (the spec's decision D13): the write-only ports read 0x00, and a write to port 2 changes nothing. -/
def Obligations.PortRomAndUnmappedWindows : Prop :=
  (∀ (a : Word) (v : Byte) (s : State), 0x2000 ≤ a.toNat → a.toNat ≤ 0x3FFF →
    busRead a s = portRead (a &&& 7#16).toNat s ∧ busWrite a v s = portWrite (a &&& 7#16).toNat v s) ∧
  (∀ (a : Word) (s : State), 0x8000 ≤ a.toNat →
    busRead a s = .ok (s.cart.prg.read ((a.toNat - 0x8000) % s.cart.prgSize.bytes)) s) ∧
  (∀ (a : Word) (v : Byte) (s : State), 0x4000 ≤ a.toNat → a.toNat ≤ 0x7FFF →
    busRead a s = .ok 0x00#8 s ∧ busWrite a v s = .ok () s) ∧
  ∀ (v : Byte) (s : State),
    (∀ port ∈ [0, 1, 3, 5, 6], portRead port s = .ok 0x00#8 s) ∧ portWrite 2 v s = .ok () s

/-- R57, R324: a write to program ROM, and a data-port write to character ROM, change no memory; the count rises by one
and the first violation is kept. The step goes on (the spec's D19), and the PPU address still increments (D20). -/
def Obligations.RejectedWritesAreRecorded : Prop :=
  (∀ (a : Word) (v : Byte) (s : State), 0x8000 ≤ a.toNat →
    busWrite a v s = .ok () { s with report := ⟨s.report.count + 1, some (s.report.first.getD ⟨.prg, a, v⟩)⟩ }) ∧
  ∀ (v : Byte) (s : State), s.ppu.addr.toNat ≤ 0x1FFF →
    portWrite 7 v s = .ok () { s with
      report := ⟨s.report.count + 1, some (s.report.first.getD ⟨.chr, s.ppu.addr, v⟩)⟩
      ppu := { s.ppu with addr := (s.ppu.addr + if s.ppu.ctrl.getLsbD 2 then 32#16 else 1#16) &&& 0x3FFF#16 } }

/-- R329: one step records at most one rejected write, and forgets none. -/
def Obligations.StepRecordsAtMostOneRejectedWrite : Prop :=
  ∀ s t : State, step s = .next t →
    s.report.count ≤ t.report.count ∧ t.report.count ≤ s.report.count + 1 ∧
    (s.report.first ≠ none → t.report.first = s.report.first)

/-! ## The stack -/

/-- R43, R44 (the order of the two bytes is the spec's decision D26): the high byte of a word is pushed first, and a pop
gives back the word pushed, the stack pointer and every other register. -/
def Obligations.PushAndPopAWord : Prop :=
  ∀ (w : Word) (s : State), ∃ t, push16 w s = .ok () t ∧ t.sp = s.sp - 2#8 ∧
    t.ram.read (stackIndex s.sp) = hi w ∧ t.ram.read (stackIndex (s.sp - 1#8)) = lo w ∧
    (∀ k, k ≠ stackIndex s.sp → k ≠ stackIndex (s.sp - 1#8) → t.ram.read k = s.ram.read k) ∧
    pop16 t = .ok w { t with sp := s.sp }

/-- R41, R42: a byte goes to the cell `SP` points at, then `SP` falls; `SP` rises, then the byte is read; both wrap.
Bytes pushed, at most 256 of them, are popped in reverse order, through the wrap of the stack pointer too. -/
def Obligations.StackIsLastInFirstOut : Prop :=
  (∀ (v : Byte) (s : State),
    push8 v s = .ok () { s with ram := s.ram.write (stackIndex s.sp) v, sp := s.sp - 1#8 } ∧
    pop8 s = .ok (s.ram.read (stackIndex (s.sp + 1#8))) { s with sp := s.sp + 1#8 }) ∧
  ∀ (vs : List Byte) (s : State), vs.length ≤ 256 →
    ∃ t, pushAll vs s = .ok () t ∧ popMany vs.length t = .ok vs.reverse { t with sp := s.sp }

/-! ## Flags -/

/-- R18: `SetZN(v)` writes `Z` and `N` from `v` and no other flag. -/
def Obligations.SetZNWritesZeroAndNegative : Prop :=
  ∀ (p v : Byte), (flag (setZN p v) .z = true ↔ v = 0x00#8) ∧ flag (setZN p v) .n = v.getLsbD 7 ∧
    ∀ f, f ≠ .z → f ≠ .n → flag (setZN p v) f = flag p f

/-- R156, R160: the flags of a comparison (unsigned carry, `Z` iff equal, `N` bit 7 of the difference) and of BIT (`Z`
from the AND, `N` and `V` from the operand); no other flag changes. -/
def Obligations.CompareAndBitFlags : Prop :=
  ∀ (r m p : Byte),
    ((flag (compareFlags r m p) .c = true ↔ m.toNat ≤ r.toNat) ∧ (flag (compareFlags r m p) .z = true ↔ r = m) ∧
      flag (compareFlags r m p) .n = (r - m).getLsbD 7 ∧
      ∀ f, f ≠ .c → f ≠ .z → f ≠ .n → flag (compareFlags r m p) f = flag p f) ∧
    ((flag (bitFlags r m p) .z = true ↔ r &&& m = 0x00#8) ∧ flag (bitFlags r m p) .n = m.getLsbD 7 ∧
      flag (bitFlags r m p) .v = m.getLsbD 6 ∧
      ∀ f, f ≠ .z → f ≠ .n → f ≠ .v → flag (bitFlags r m p) f = flag p f)

/-- R151: `AddWithCarry`: the 9-bit sum, carry iff it passes 0xFF, overflow iff the inputs have one sign and the result
the other, `Z` and `N` of the result, no other flag. -/
def Obligations.AddWithCarryResultAndFlags : Prop :=
  ∀ (a m p : Byte), let sum := a.toNat + m.toNat + (flag p .c).toNat
    let r := addResult a m (flag p .c)
    let q := addFlags a m p
    r.toNat = sum % 256 ∧ (flag q .c = true ↔ 0xFF < sum) ∧
    (flag q .v = true ↔ a.getLsbD 7 = m.getLsbD 7 ∧ r.getLsbD 7 ≠ a.getLsbD 7) ∧
    (flag q .z = true ↔ r = 0x00#8) ∧ flag q .n = r.getLsbD 7 ∧
    ∀ f, f ≠ .c → f ≠ .v → f ≠ .z → f ≠ .n → flag q f = flag p f

/-- R152: SBC, the sum with the complement: the difference less the borrow, `C` iff no borrow, `V` clear iff the
two's-complement difference fits. -/
def Obligations.SubtractBorrowAndOverflow : Prop :=
  ∀ (a m p : Byte), let b := 1 - (flag p .c).toNat
    let r := addResult a (~~~m) (flag p .c)
    let q := addFlags a (~~~m) p
    r.toNat = (a.toNat + 256 - m.toNat + 256 - b) % 256 ∧ (flag q .c = true ↔ m.toNat + b ≤ a.toNat) ∧
    (flag q .v = false ↔ r.toInt = a.toInt - m.toInt - b)

/-- R152 and 90_conflicts.md C7: ADC of `m` and then SBC of `m` with the carry the ADC left restores the accumulator
exactly when the carry into the ADC and the carry out of it sum to 1. -/
def Obligations.AdcThenSbcRestoresExactlyWhen : Prop :=
  ∀ (a m p : Byte), let q := addFlags a m p
    addResult (addResult a m (flag p .c)) (~~~m) (flag q .c) = a ↔ (flag p .c).toNat + (flag q .c).toNat = 1

/-- R181 to R184: the four shift cores as arithmetic, the carry out, and R183's remark that nine ROLs restore the value
and the carry. -/
def Obligations.ShiftCoresAsArithmetic : Prop :=
  ∀ (v : Byte) (c : Bool),
    ((aslCore v c).1.toNat = 2 * v.toNat % 256 ∧ (aslCore v c).2 = v.getLsbD 7) ∧
    ((lsrCore v c).1.toNat = v.toNat / 2 ∧ (lsrCore v c).2 = v.getLsbD 0) ∧
    ((rolCore v c).1.toNat = (2 * v.toNat + c.toNat) % 256 ∧ (rolCore v c).2 = v.getLsbD 7) ∧
    ((rorCore v c).1.toNat = v.toNat / 2 + 128 * c.toNat ∧ (rorCore v c).2 = v.getLsbD 0) ∧
    (fun x : Byte × Bool => rolCore x.1 x.2)^[9] (v, c) = (v, c)

/-! ## Instructions -/

/-- R131, R132, R133, R246: LDA, LDX, LDY, LAX in every form. -/
def Obligations.LoadsCompleteInEveryForm : Prop :=
  (∀ (i : Instr) (s : State), i.mnemonic = .lda → Reads i s fun m u => { u with a := m, p := setZN u.p m }) ∧
  (∀ (i : Instr) (s : State), i.mnemonic = .ldx → Reads i s fun m u => { u with x := m, p := setZN u.p m }) ∧
  (∀ (i : Instr) (s : State), i.mnemonic = .ldy → Reads i s fun m u => { u with y := m, p := setZN u.p m }) ∧
  (∀ (i : Instr) (s : State), i.mnemonic = .lax → Reads i s fun m u => { u with a := m, x := m, p := setZN u.p m }) ∧
  EncodedAs .lda [(0xA9#8, .imm), (0xA5#8, .zp), (0xB5#8, .zpx), (0xAD#8, .abs), (0xBD#8, .abx), (0xB9#8, .aby),
    (0xA1#8, .izx), (0xB1#8, .izy)] ∧
  EncodedAs .ldx [(0xA2#8, .imm), (0xA6#8, .zp), (0xB6#8, .zpy), (0xAE#8, .abs), (0xBE#8, .aby)] ∧
  EncodedAs .ldy [(0xA0#8, .imm), (0xA4#8, .zp), (0xB4#8, .zpx), (0xAC#8, .abs), (0xBC#8, .abx)] ∧
  EncodedAs .lax [(0xA7#8, .zp), (0xB7#8, .zpy), (0xAF#8, .abs), (0xBF#8, .aby), (0xA3#8, .izx), (0xB3#8, .izy)]

/-- R134, R135, R136, R245: STA, STX, STY, SAX in every form. -/
def Obligations.StoresCompleteInEveryForm : Prop :=
  (∀ (i : Instr) (s : State), i.mnemonic = .sta → Stores i s s.a) ∧
  (∀ (i : Instr) (s : State), i.mnemonic = .stx → Stores i s s.x) ∧
  (∀ (i : Instr) (s : State), i.mnemonic = .sty → Stores i s s.y) ∧
  (∀ (i : Instr) (s : State), i.mnemonic = .sax → Stores i s (s.a &&& s.x)) ∧
  EncodedAs .sta [(0x85#8, .zp), (0x95#8, .zpx), (0x8D#8, .abs), (0x9D#8, .abx), (0x99#8, .aby), (0x81#8, .izx),
    (0x91#8, .izy)] ∧
  EncodedAs .stx [(0x86#8, .zp), (0x96#8, .zpy), (0x8E#8, .abs)] ∧
  EncodedAs .sty [(0x84#8, .zp), (0x94#8, .zpx), (0x8C#8, .abs)] ∧
  EncodedAs .sax [(0x87#8, .zp), (0x97#8, .zpy), (0x8F#8, .abs), (0x83#8, .izx)]

/-- R94 to R104, R124: the effective address of every mode, and the operand byte. But for Indirect the address comes
from RAM and the registers with no side effect; the zero-page sums and the second pointer byte wrap in page zero (the
spec's D34). Indirect makes the two bus reads of its pointer, one after the other, and stops where one of them stops.
IMP, ACC and REL have no address, and using one is ContractViolation. The operand byte is the bus read of the effective
address, in the state resolving it left; the Immediate operand is the byte the fetch has read (log 2). -/
def Obligations.EffectiveAddresses : Prop :=
  (∀ (s : State) (b : Byte) (w : Word),
    resolve (.imm b) s = .ok s.pc s ∧ resolve (.zp b) s = .ok (zext b) s ∧
    resolve (.zpx b) s = .ok (zext (b + s.x)) s ∧ resolve (.zpy b) s = .ok (zext (b + s.y)) s ∧
    resolve (.abs w) s = .ok w s ∧ resolve (.abx w) s = .ok (w + zext s.x) s ∧
    resolve (.aby w) s = .ok (w + zext s.y) s ∧
    resolve (.izx b) s = .ok (cat (s.ram.read (b + s.x + 1#8).toNat) (s.ram.read (b + s.x).toNat)) s ∧
    resolve (.izy b) s = .ok (cat (s.ram.read (b + 1#8).toNat) (s.ram.read b.toNat) + zext s.y) s ∧
    resolve .imp s = .stop { s with run := .contractViolation } ∧
    resolve .acc s = .stop { s with run := .contractViolation } ∧
    resolve (.rel b) s = .stop { s with run := .contractViolation }) ∧
  (∀ (w : Word) (s u t : State) (l h : Byte),
    (busRead w s = .ok l u → busRead (pointerSecond w) u = .ok h t → resolve (.ind w) s = .ok (cat h l) t) ∧
    (busRead w s = .ok l u → busRead (pointerSecond w) u = .stop t → resolve (.ind w) s = .stop t) ∧
    (busRead w s = .stop u → resolve (.ind w) s = .stop u)) ∧
  (∀ (v : Byte) (s : State), readOperand (.imm v) s = .ok v s) ∧
  ∀ (o : Operand) (s t : State), o.format ≠ .imm →
    (∀ ea, resolve o s = .ok ea t → readOperand o s = busRead ea t) ∧
    (resolve o s = .stop t → readOperand o s = .stop t)

/-- R137 to R142, R163 to R166: the six transfers, TXS writing no flag, and INX, INY, DEX, DEY. -/
def Obligations.TransfersAndRegisterIncrementsComplete : Prop :=
  ∀ s : State,
    exec .tax s = .next { s with x := s.a, p := setZN s.p s.a } ∧
    exec .tay s = .next { s with y := s.a, p := setZN s.p s.a } ∧
    exec .txa s = .next { s with a := s.x, p := setZN s.p s.x } ∧
    exec .tya s = .next { s with a := s.y, p := setZN s.p s.y } ∧
    exec .tsx s = .next { s with x := s.sp, p := setZN s.p s.sp } ∧
    exec .txs s = .next { s with sp := s.x } ∧
    exec .inx s = .next { s with x := s.x + 1#8, p := setZN s.p (s.x + 1#8) } ∧
    exec .iny s = .next { s with y := s.y + 1#8, p := setZN s.p (s.y + 1#8) } ∧
    exec .dex s = .next { s with x := s.x - 1#8, p := setZN s.p (s.x - 1#8) } ∧
    exec .dey s = .next { s with y := s.y - 1#8, p := setZN s.p (s.y - 1#8) } ∧
    EncodedAs .tax [(0xAA#8, .imp)] ∧ EncodedAs .tay [(0xA8#8, .imp)] ∧ EncodedAs .txa [(0x8A#8, .imp)] ∧
    EncodedAs .tya [(0x98#8, .imp)] ∧ EncodedAs .tsx [(0xBA#8, .imp)] ∧ EncodedAs .txs [(0x9A#8, .imp)] ∧
    EncodedAs .inx [(0xE8#8, .imp)] ∧ EncodedAs .iny [(0xC8#8, .imp)] ∧ EncodedAs .dex [(0xCA#8, .imp)] ∧
    EncodedAs .dey [(0x88#8, .imp)]

/-- R151, R152, R253: ADC and SBC in every form, the second SBC immediate too; the result and the flags are those of
`AddWithCarryResultAndFlags` and `SubtractBorrowAndOverflow`. `D` has no effect (D27). -/
def Obligations.AddAndSubtractCompleteInEveryForm : Prop :=
  (∀ (i : Instr) (s : State), i.mnemonic = .adc →
    Reads i s fun m u => { u with a := addResult u.a m (flag u.p .c), p := addFlags u.a m u.p }) ∧
  (∀ (i : Instr) (s : State), i.mnemonic = .sbc →
    Reads i s fun m u => { u with a := addResult u.a (~~~m) (flag u.p .c), p := addFlags u.a (~~~m) u.p }) ∧
  EncodedAs .adc [(0x69#8, .imm), (0x65#8, .zp), (0x75#8, .zpx), (0x6D#8, .abs), (0x7D#8, .abx), (0x79#8, .aby),
    (0x61#8, .izx), (0x71#8, .izy)] ∧
  EncodedAs .sbc [(0xE9#8, .imm), (0xEB#8, .imm), (0xE5#8, .zp), (0xF5#8, .zpx), (0xED#8, .abs), (0xFD#8, .abx),
    (0xF9#8, .aby), (0xE1#8, .izx), (0xF1#8, .izy)]

/-- R153, R154, R155: AND, ORA, EOR in every form. -/
def Obligations.LogicCompletesInEveryForm : Prop :=
  (∀ (i : Instr) (s : State), i.mnemonic = .and →
    Reads i s fun m u => { u with a := u.a &&& m, p := setZN u.p (u.a &&& m) }) ∧
  (∀ (i : Instr) (s : State), i.mnemonic = .ora →
    Reads i s fun m u => { u with a := u.a ||| m, p := setZN u.p (u.a ||| m) }) ∧
  (∀ (i : Instr) (s : State), i.mnemonic = .eor →
    Reads i s fun m u => { u with a := u.a ^^^ m, p := setZN u.p (u.a ^^^ m) }) ∧
  EncodedAs .and [(0x29#8, .imm), (0x25#8, .zp), (0x35#8, .zpx), (0x2D#8, .abs), (0x3D#8, .abx), (0x39#8, .aby),
    (0x21#8, .izx), (0x31#8, .izy)] ∧
  EncodedAs .ora [(0x09#8, .imm), (0x05#8, .zp), (0x15#8, .zpx), (0x0D#8, .abs), (0x1D#8, .abx), (0x19#8, .aby),
    (0x01#8, .izx), (0x11#8, .izy)] ∧
  EncodedAs .eor [(0x49#8, .imm), (0x45#8, .zp), (0x55#8, .zpx), (0x4D#8, .abs), (0x5D#8, .abx), (0x59#8, .aby),
    (0x41#8, .izx), (0x51#8, .izy)]

/-- R157, R158, R159, R160: CMP, CPX, CPY and BIT in every form write flags only. -/
def Obligations.ComparesAndBitCompleteInEveryForm : Prop :=
  (∀ (i : Instr) (s : State), i.mnemonic = .cmp → Reads i s fun m u => { u with p := compareFlags u.a m u.p }) ∧
  (∀ (i : Instr) (s : State), i.mnemonic = .cpx → Reads i s fun m u => { u with p := compareFlags u.x m u.p }) ∧
  (∀ (i : Instr) (s : State), i.mnemonic = .cpy → Reads i s fun m u => { u with p := compareFlags u.y m u.p }) ∧
  (∀ (i : Instr) (s : State), i.mnemonic = .bit → Reads i s fun m u => { u with p := bitFlags u.a m u.p }) ∧
  EncodedAs .cmp [(0xC9#8, .imm), (0xC5#8, .zp), (0xD5#8, .zpx), (0xCD#8, .abs), (0xDD#8, .abx), (0xD9#8, .aby),
    (0xC1#8, .izx), (0xD1#8, .izy)] ∧
  EncodedAs .cpx [(0xE0#8, .imm), (0xE4#8, .zp), (0xEC#8, .abs)] ∧
  EncodedAs .cpy [(0xC0#8, .imm), (0xC4#8, .zp), (0xCC#8, .abs)] ∧
  EncodedAs .bit [(0x24#8, .zp), (0x2C#8, .abs)]

/-- R161, R162: INC and DEC in every form; the flags are those of the computed byte, rejected or ignored writes too. -/
def Obligations.MemoryIncrementAndDecrementComplete : Prop :=
  (∀ (i : Instr) (s : State), i.mnemonic = .inc →
    Modifies i s (· + 1#8) fun v u => { u with p := setZN u.p (v + 1#8) }) ∧
  (∀ (i : Instr) (s : State), i.mnemonic = .dec →
    Modifies i s (· - 1#8) fun v u => { u with p := setZN u.p (v - 1#8) }) ∧
  EncodedAs .inc [(0xE6#8, .zp), (0xF6#8, .zpx), (0xEE#8, .abs), (0xFE#8, .abx)] ∧
  EncodedAs .dec [(0xC6#8, .zp), (0xD6#8, .zpx), (0xCE#8, .abs), (0xDE#8, .abx)]

/-- R180 to R184: the accumulator forms of the shifts. -/
def Obligations.AccumulatorShiftsComplete : Prop :=
  ∀ s : State, let c := flag s.p .c
    exec .aslAcc s = .next { s with a := (aslCore s.a c).1, p := shiftFlags (aslCore s.a c).1 (aslCore s.a c).2 s.p } ∧
    exec .lsrAcc s = .next { s with a := (lsrCore s.a c).1, p := shiftFlags (lsrCore s.a c).1 (lsrCore s.a c).2 s.p } ∧
    exec .rolAcc s = .next { s with a := (rolCore s.a c).1, p := shiftFlags (rolCore s.a c).1 (rolCore s.a c).2 s.p } ∧
    exec .rorAcc s = .next { s with a := (rorCore s.a c).1, p := shiftFlags (rorCore s.a c).1 (rorCore s.a c).2 s.p } ∧
    ∀ (r p : Byte) (b : Bool), flag (shiftFlags r b p) .c = b ∧ (flag (shiftFlags r b p) .z = true ↔ r = 0x00#8) ∧
      flag (shiftFlags r b p) .n = r.getLsbD 7

/-- R180 to R184: the memory forms of the shifts: one read, one write, the flags from the byte written (D31). -/
def Obligations.MemoryShiftsCompleteInEveryForm : Prop :=
  (∀ (i : Instr) (s : State), i.mnemonic = .asl → i.operand ≠ .acc →
    Modifies i s (fun v => (aslCore v (flag s.p .c)).1) fun v u =>
      { u with p := shiftFlags (aslCore v (flag s.p .c)).1 (aslCore v (flag s.p .c)).2 u.p }) ∧
  (∀ (i : Instr) (s : State), i.mnemonic = .lsr → i.operand ≠ .acc →
    Modifies i s (fun v => (lsrCore v (flag s.p .c)).1) fun v u =>
      { u with p := shiftFlags (lsrCore v (flag s.p .c)).1 (lsrCore v (flag s.p .c)).2 u.p }) ∧
  (∀ (i : Instr) (s : State), i.mnemonic = .rol → i.operand ≠ .acc →
    Modifies i s (fun v => (rolCore v (flag s.p .c)).1) fun v u =>
      { u with p := shiftFlags (rolCore v (flag s.p .c)).1 (rolCore v (flag s.p .c)).2 u.p }) ∧
  (∀ (i : Instr) (s : State), i.mnemonic = .ror → i.operand ≠ .acc →
    Modifies i s (fun v => (rorCore v (flag s.p .c)).1) fun v u =>
      { u with p := shiftFlags (rorCore v (flag s.p .c)).1 (rorCore v (flag s.p .c)).2 u.p }) ∧
  EncodedAs .asl [(0x0A#8, .acc), (0x06#8, .zp), (0x16#8, .zpx), (0x0E#8, .abs), (0x1E#8, .abx)] ∧
  EncodedAs .lsr [(0x4A#8, .acc), (0x46#8, .zp), (0x56#8, .zpx), (0x4E#8, .abs), (0x5E#8, .abx)] ∧
  EncodedAs .rol [(0x2A#8, .acc), (0x26#8, .zp), (0x36#8, .zpx), (0x2E#8, .abs), (0x3E#8, .abx)] ∧
  EncodedAs .ror [(0x6A#8, .acc), (0x66#8, .zp), (0x76#8, .zpx), (0x6E#8, .abs), (0x7E#8, .abx)]

/-- R191, R192, R101: JMP goes to its address; the indirect form to the word at its pointer, whose second byte comes
from the start of the same page when the pointer ends in 0xFF. A pointer read that raises VramRange (R296; log 7) ends
the step. -/
def Obligations.JumpsComplete : Prop :=
  (∀ (a : Word) (s : State), exec (.jmpAbs a) s = .next { s with pc := a }) ∧
  (∀ (a : Word) (s : State), s.cart.mirroring ≠ .fourScreen →
    ∃ l u h t, busRead a s = .ok l u ∧
      busRead (if a &&& 0x00FF#16 = 0x00FF#16 then a &&& 0xFF00#16 else a + 1#16) u = .ok h t ∧
      exec (.jmpInd a) s = .next { t with pc := cat h l }) ∧
  (∀ (a : Word) (s u t : State) (l h : Byte), busRead a s = .ok l u →
    busRead (if a &&& 0x00FF#16 = 0x00FF#16 then a &&& 0xFF00#16 else a + 1#16) u = .ok h t →
    exec (.jmpInd a) s = .next { t with pc := cat h l }) ∧
  (∀ (a : Word) (s u : State), busRead a s = .stop u → exec (.jmpInd a) s = .next u) ∧
  (∀ (a : Word) (s u t : State) (l : Byte), busRead a s = .ok l u →
    busRead (if a &&& 0x00FF#16 = 0x00FF#16 then a &&& 0xFF00#16 else a + 1#16) u = .stop t →
    exec (.jmpInd a) s = .next t) ∧
  EncodedAs .jmp [(0x4C#8, .abs), (0x6C#8, .ind)]

/-- R193, R194: JSR pushes the address of its last byte, high byte first, and jumps; RTS pops an address and adds one.
With `PC` at byte 1 of a JSR at `P`, JSR and then RTS go to `P + 3`. -/
def Obligations.SubroutineCallAndReturn : Prop :=
  (∀ (a : Word) (s : State), exec (.jsr a) s = .next { s with
    ram := (s.ram.write (stackIndex s.sp) (hi (s.pc + 1#16))).write (stackIndex (s.sp - 1#8)) (lo (s.pc + 1#16))
    sp := s.sp - 2#8
    pc := a }) ∧
  (∀ s : State, exec .rts s = .next { s with
    sp := s.sp + 2#8
    pc := cat (s.ram.read (stackIndex (s.sp + 2#8))) (s.ram.read (stackIndex (s.sp + 1#8))) + 1#16 }) ∧
  (∀ (a : Word) (s t u : State), exec (.jsr a) s = .next t → u.ram = t.ram → u.sp = t.sp →
    exec .rts u = .next { u with sp := s.sp, pc := s.pc + 2#16 }) ∧
  EncodedAs .jsr [(0x20#8, .abs)] ∧ EncodedAs .rts [(0x60#8, .imp)]

/-- R195, R331: RTI pops the status, Break cleared and Break2 set, and then the program counter, with no adjustment; it
restores exactly what NMI entry pushed, for a live status with Break 0 and Break2 1 (the invariant, R17). -/
def Obligations.ReturnFromInterruptCompletesAndUndoesNmiEntry : Prop :=
  (∀ s : State, exec .rti s = .next { s with
    p := (s.ram.read (stackIndex (s.sp + 1#8)) &&& ~~~0x10#8) ||| 0x20#8
    sp := s.sp + 3#8
    pc := cat (s.ram.read (stackIndex (s.sp + 3#8))) (s.ram.read (stackIndex (s.sp + 2#8))) }) ∧
  EncodedAs .rti [(0x40#8, .imp)] ∧
  ∀ s t u : State, nmiEntry s = .ok () t → u.ram = t.ram → u.sp = t.sp → flag s.p .b = false → flag s.p .u = true →
    exec .rti u = .next { u with p := s.p, sp := s.sp, pc := s.pc }

/-- R196 to R204: the eight branches: the signed displacement from the address after the operand if the condition holds,
else that address. -/
def Obligations.BranchesComplete : Prop :=
  (∀ d : Byte, (sext d).toInt = d.toInt) ∧
  (∀ (d : Byte) (s : State), let next := s.pc + 1#16
    exec (.bcc d) s = .next { s with pc := if flag s.p .c = false then next + sext d else next } ∧
    exec (.bcs d) s = .next { s with pc := if flag s.p .c = true then next + sext d else next } ∧
    exec (.beq d) s = .next { s with pc := if flag s.p .z = true then next + sext d else next } ∧
    exec (.bne d) s = .next { s with pc := if flag s.p .z = false then next + sext d else next } ∧
    exec (.bmi d) s = .next { s with pc := if flag s.p .n = true then next + sext d else next } ∧
    exec (.bpl d) s = .next { s with pc := if flag s.p .n = false then next + sext d else next } ∧
    exec (.bvc d) s = .next { s with pc := if flag s.p .v = false then next + sext d else next } ∧
    exec (.bvs d) s = .next { s with pc := if flag s.p .v = true then next + sext d else next }) ∧
  EncodedAs .bcc [(0x90#8, .rel)] ∧ EncodedAs .bcs [(0xB0#8, .rel)] ∧ EncodedAs .beq [(0xF0#8, .rel)] ∧
  EncodedAs .bne [(0xD0#8, .rel)] ∧ EncodedAs .bmi [(0x30#8, .rel)] ∧ EncodedAs .bpl [(0x10#8, .rel)] ∧
  EncodedAs .bvc [(0x50#8, .rel)] ∧ EncodedAs .bvs [(0x70#8, .rel)]

/-- R205, R123: BRK halts and does nothing else: no push, no flag, no tick, no poll. A step whose fetched byte is 0x00
leaves the state the fetch left, with `PC` one further and `run` HaltedBrk; the fetch starts with the frame pulse cleared,
which is the model's choice (log 5). -/
def Obligations.BrkHaltsAndDoesNothingElse : Prop :=
  (∀ s : State, exec .brk s = .next { s with run := .haltedBrk }) ∧ EncodedAs .brk [(0x00#8, .imp)] ∧
  ∀ s t : State, s.run = .running → busRead s.pc { s with frameComplete := false } = .ok 0x00#8 t →
    step s = .next { t with pc := s.pc + 1#16, run := .haltedBrk }

/-- R206, R254, R255, R256: the 28 NOP encodings; the multi-byte ones make their read and discard the byte. -/
def Obligations.NopsComplete : Prop :=
  (∀ (i : Instr) (s : State), i.mnemonic = .nop → i.operand = .imp → exec i s = .next s) ∧
  (∀ (i : Instr) (s : State), i.mnemonic = .nop → i.operand ≠ .imp → Reads i s fun _ u => u) ∧
  EncodedAs .nop [(0xEA#8, .imp), (0x1A#8, .imp), (0x3A#8, .imp), (0x5A#8, .imp), (0x7A#8, .imp), (0xDA#8, .imp),
    (0xFA#8, .imp), (0x80#8, .imm), (0x82#8, .imm), (0x89#8, .imm), (0xC2#8, .imm), (0xE2#8, .imm), (0x04#8, .zp),
    (0x44#8, .zp), (0x64#8, .zp), (0x14#8, .zpx), (0x34#8, .zpx), (0x54#8, .zpx), (0x74#8, .zpx), (0xD4#8, .zpx),
    (0xF4#8, .zpx), (0x0C#8, .abs), (0x1C#8, .abx), (0x3C#8, .abx), (0x5C#8, .abx), (0x7C#8, .abx), (0xDC#8, .abx),
    (0xFC#8, .abx)]

/-- R220 to R223: PHA, PLA, PHP, PLP. -/
def Obligations.StackInstructionsComplete : Prop :=
  ∀ s : State, let top := s.ram.read (stackIndex (s.sp + 1#8))
    exec .pha s = .next { s with ram := s.ram.write (stackIndex s.sp) s.a, sp := s.sp - 1#8 } ∧
    exec .pla s = .next { s with a := top, p := setZN s.p top, sp := s.sp + 1#8 } ∧
    exec .php s = .next { s with ram := s.ram.write (stackIndex s.sp) (s.p ||| 0x30#8), sp := s.sp - 1#8 } ∧
    exec .plp s = .next { s with p := (top &&& ~~~0x10#8) ||| 0x20#8, sp := s.sp + 1#8 } ∧
    EncodedAs .pha [(0x48#8, .imp)] ∧ EncodedAs .pla [(0x68#8, .imp)] ∧ EncodedAs .php [(0x08#8, .imp)] ∧
    EncodedAs .plp [(0x28#8, .imp)]

/-- R224 to R230: the seven flag instructions, each writing one bit of `P`. -/
def Obligations.FlagInstructionsComplete : Prop :=
  ∀ s : State,
    exec .clc s = .next { s with p := s.p &&& 0xFE#8 } ∧ exec .sec s = .next { s with p := s.p ||| 0x01#8 } ∧
    exec .cli s = .next { s with p := s.p &&& 0xFB#8 } ∧ exec .sei s = .next { s with p := s.p ||| 0x04#8 } ∧
    exec .cld s = .next { s with p := s.p &&& 0xF7#8 } ∧ exec .sed s = .next { s with p := s.p ||| 0x08#8 } ∧
    exec .clv s = .next { s with p := s.p &&& 0xBF#8 } ∧
    EncodedAs .clc [(0x18#8, .imp)] ∧ EncodedAs .sec [(0x38#8, .imp)] ∧ EncodedAs .cli [(0x58#8, .imp)] ∧
    EncodedAs .sei [(0x78#8, .imp)] ∧ EncodedAs .cld [(0xD8#8, .imp)] ∧ EncodedAs .sed [(0xF8#8, .imp)] ∧
    EncodedAs .clv [(0xB8#8, .imp)]

/-- R241 to R244: SLO, RLA, SRE, RRA in every form: the memory shift, then the operation with its result; RRA's addition
takes the rotate's carry. The decompositions are the spec's GK5 (R240). -/
def Obligations.ShiftCombinationsCompleteInEveryForm : Prop :=
  (∀ (i : Instr) (s : State), i.mnemonic = .slo → Modifies i s (fun v => (aslCore v (flag s.p .c)).1) fun v u =>
    let r := (aslCore v (flag s.p .c)).1
    { u with a := u.a ||| r, p := setZN (shiftFlags r (aslCore v (flag s.p .c)).2 u.p) (u.a ||| r) }) ∧
  (∀ (i : Instr) (s : State), i.mnemonic = .rla → Modifies i s (fun v => (rolCore v (flag s.p .c)).1) fun v u =>
    let r := (rolCore v (flag s.p .c)).1
    { u with a := u.a &&& r, p := setZN (shiftFlags r (rolCore v (flag s.p .c)).2 u.p) (u.a &&& r) }) ∧
  (∀ (i : Instr) (s : State), i.mnemonic = .sre → Modifies i s (fun v => (lsrCore v (flag s.p .c)).1) fun v u =>
    let r := (lsrCore v (flag s.p .c)).1
    { u with a := u.a ^^^ r, p := setZN (shiftFlags r (lsrCore v (flag s.p .c)).2 u.p) (u.a ^^^ r) }) ∧
  (∀ (i : Instr) (s : State), i.mnemonic = .rra → Modifies i s (fun v => (rorCore v (flag s.p .c)).1) fun v u =>
    let r := (rorCore v (flag s.p .c)).1
    let c := (rorCore v (flag s.p .c)).2
    { u with a := addResult u.a r c, p := addFlags u.a r (shiftFlags r c u.p) }) ∧
  EncodedAs .slo [(0x07#8, .zp), (0x17#8, .zpx), (0x0F#8, .abs), (0x1F#8, .abx), (0x1B#8, .aby), (0x03#8, .izx),
    (0x13#8, .izy)] ∧
  EncodedAs .rla [(0x27#8, .zp), (0x37#8, .zpx), (0x2F#8, .abs), (0x3F#8, .abx), (0x3B#8, .aby), (0x23#8, .izx),
    (0x33#8, .izy)] ∧
  EncodedAs .sre [(0x47#8, .zp), (0x57#8, .zpx), (0x4F#8, .abs), (0x5F#8, .abx), (0x5B#8, .aby), (0x43#8, .izx),
    (0x53#8, .izy)] ∧
  EncodedAs .rra [(0x67#8, .zp), (0x77#8, .zpx), (0x6F#8, .abs), (0x7F#8, .abx), (0x7B#8, .aby), (0x63#8, .izx),
    (0x73#8, .izy)]

/-- R247, R248: DCP, a decrement and then a compare with the accumulator, and ISB, an increment and then a subtraction,
in every form. -/
def Obligations.DcpAndIsbCompleteInEveryForm : Prop :=
  (∀ (i : Instr) (s : State), i.mnemonic = .dcp →
    Modifies i s (· - 1#8) fun v u => { u with p := compareFlags u.a (v - 1#8) u.p }) ∧
  (∀ (i : Instr) (s : State), i.mnemonic = .isb → Modifies i s (· + 1#8) fun v u =>
    { u with a := addResult u.a (~~~(v + 1#8)) (flag u.p .c), p := addFlags u.a (~~~(v + 1#8)) u.p }) ∧
  EncodedAs .dcp [(0xC7#8, .zp), (0xD7#8, .zpx), (0xCF#8, .abs), (0xDF#8, .abx), (0xDB#8, .aby), (0xC3#8, .izx),
    (0xD3#8, .izy)] ∧
  EncodedAs .isb [(0xE7#8, .zp), (0xF7#8, .zpx), (0xEF#8, .abs), (0xFF#8, .abx), (0xFB#8, .aby), (0xE3#8, .izx),
    (0xF3#8, .izy)]

/-- R249 to R252: ANC, ALR, ARR, AXS (the flag rules of ARR and AXS are the spec's D37). ANC copies `N` into `C`; ALR
is an AND and an LSR; ARR rotates the old carry in and takes `C` from bit 6, `V` from bits 6 and 5; AXS compares
`A AND X` with the operand and puts the difference in `X`. -/
def Obligations.ImmediateCombinationsComplete : Prop :=
  (∀ (i : Instr) (m : Byte) (s : State), i.mnemonic = .anc → i.operand = .imm m →
    exec i s = .next { s with a := s.a &&& m, p := ancFlags (s.a &&& m) s.p, pc := s.pc + 1#16 }) ∧
  (∀ (m : Byte) (s : State), exec (.alrImm m) s = .next { s with
    a := (s.a &&& m) >>> 1, p := shiftFlags ((s.a &&& m) >>> 1) ((s.a &&& m).getLsbD 0) s.p, pc := s.pc + 1#16 }) ∧
  (∀ (m : Byte) (s : State), let r := (s.a &&& m) >>> 1 ||| if flag s.p .c then 0x80#8 else 0x00#8
    exec (.arrImm m) s = .next { s with a := r, p := arrFlags r s.p, pc := s.pc + 1#16 }) ∧
  (∀ (m : Byte) (s : State), exec (.axsImm m) s = .next { s with
    x := (s.a &&& s.x) - m, p := compareFlags (s.a &&& s.x) m s.p, pc := s.pc + 1#16 }) ∧
  (∀ r p : Byte, flag (ancFlags r p) .c = r.getLsbD 7 ∧ flag (ancFlags r p) .n = r.getLsbD 7 ∧
    (flag (ancFlags r p) .z = true ↔ r = 0x00#8) ∧ flag (arrFlags r p) .c = r.getLsbD 6 ∧
    flag (arrFlags r p) .v = (r.getLsbD 6 ^^ r.getLsbD 5) ∧ flag (arrFlags r p) .n = r.getLsbD 7 ∧
    (flag (arrFlags r p) .z = true ↔ r = 0x00#8)) ∧
  EncodedAs .anc [(0x0B#8, .imm), (0x2B#8, .imm)] ∧ EncodedAs .alr [(0x4B#8, .imm)] ∧
  EncodedAs .arr [(0x6B#8, .imm)] ∧ EncodedAs .axs [(0xCB#8, .imm)]

/-! ## Frames -/

/-- R16: every flag an instruction's rule does not list keeps its value, and the accumulator loads, transfers and
logical operations leave `Z` and `N` as those of the accumulator. -/
def Obligations.UnlistedFlagsKeepTheirValues : Prop :=
  (∀ (i : Instr) (s t : State) (f : Flag), exec i s = .next t → f ∉ flagsWritten i.mnemonic →
    flag t.p f = flag s.p f) ∧
  ∀ (i : Instr) (s t : State), exec i s = .next t → s.run = .running → t.run = .running →
    i.mnemonic ∈ [Mnemonic.lda, .txa, .tya, .pla, .and, .ora, .eor, .lax] →
    (flag t.p .z = true ↔ t.a = 0x00#8) ∧ flag t.p .n = t.a.getLsbD 7

/-- R10 to R13: only the instructions the rules list write `A`, `X`, `Y` and `SP`; the accumulator forms alone of the
four shifts write `A`. No instruction changes the configuration or the frame pulse, and `run` changes by BRK or by a
VramRange fault alone. -/
def Obligations.OnlyTheListedInstructionsWriteARegister : Prop :=
  ∀ (i : Instr) (s t : State), exec i s = .next t →
    (i.mnemonic ∉ [Mnemonic.lda, .txa, .tya, .pla, .adc, .sbc, .and, .ora, .eor, .slo, .rla, .sre, .rra, .lax, .isb,
      .anc, .alr, .arr] → i.operand ≠ .acc → t.a = s.a) ∧
    (i.mnemonic ∉ [Mnemonic.ldx, .tax, .tsx, .inx, .dex, .lax, .axs] → t.x = s.x) ∧
    (i.mnemonic ∉ [Mnemonic.ldy, .tay, .iny, .dey] → t.y = s.y) ∧
    (i.mnemonic ∉ [Mnemonic.txs, .pha, .pla, .php, .plp, .jsr, .rts, .rti] → t.sp = s.sp) ∧
    t.cart = s.cart ∧ t.frameComplete = s.frameComplete ∧
    (i.mnemonic ≠ .brk → t.run = s.run ∨ ∃ k, t.run = .vramRange k)

/-- Every byte of RAM keeps its value but the bytes the instruction stores to: the cell of its effective address, where
that is below 0x2000, or the stack cells it pushes (R53, R62, R41). -/
def Obligations.OnlyTheStoredBytesOfRamChange : Prop :=
  ∀ (i : Instr) (s t : State) (k : Nat), exec i s = .next t → k ∉ ramStores i s → t.ram.read k = s.ram.read k

/-- Every byte of the PPU's memories keeps its value but the byte a port store reaches: OAM through port 4 at the OAM
pointer, nametables and palette through port 7 at the cell the PPU address names at the write (R278, R283, R286). -/
def Obligations.OnlyPortStoresChangePpuMemory : Prop :=
  ∀ (i : Instr) (s t : State) (k : Nat), exec i s = .next t →
    (¬ (portStored i s = some 4 ∧ k = s.ppu.oamAddr.toNat) → t.ppu.oam.read k = s.ppu.oam.read k) ∧
    (¬ (portStored i s = some 7 ∧ ppuCell s.cart.mirroring (dataPortAddress i s) = .vram k) →
      t.ppu.vram.read k = s.ppu.vram.read k) ∧
    (¬ (portStored i s = some 7 ∧ ppuCell s.cart.mirroring (dataPortAddress i s) = .palette k) →
      t.ppu.palette.read k = s.ppu.palette.read k)

/-- R70, R61: an instruction changes a PPU register or the report by a port access or a rejected store alone: with no
data address in the port window, nothing of the PPU changes; with no store to a port, only Status, the latches, the
Address register and the read buffer can change; with no store to ROM and none to port 7, the report does not change;
and no instruction moves the counters, which only the tick moves. -/
def Obligations.PpuRegistersChangeByPortAccessAlone : Prop :=
  ∀ (i : Instr) (s t : State), exec i s = .next t →
    ((∀ a ∈ dataAddresses i s, a.toNat < 0x2000 ∨ 0x4000 ≤ a.toNat) → t.ppu = s.ppu) ∧
    (portStored i s = none → SamePpuApartFromPortReads s.ppu t.ppu) ∧
    ((∀ ea, storeTarget i s = some ea → ea.toNat < 0x8000) → portStored i s ≠ some 7 → t.report = s.report) ∧
    t.ppu.scanLine = s.ppu.scanLine ∧ t.ppu.cycleCounter = s.ppu.cycleCounter

/-! ## The PPU -/

/-- R273: a Control write stores all eight bits and latches an NMI exactly when it newly sets generate-NMI in vblank; a
latch already set stays (bit positions: the spec's D12). -/
def Obligations.ControlWriteRearmsTheNmi : Prop :=
  ∀ (v : Byte) (s : State), ∃ t, portWrite 0 v s = .ok () t ∧
    t = { s with ppu := { s.ppu with ctrl := v, nmiLatch := t.ppu.nmiLatch } } ∧
    (t.ppu.nmiLatch = true ↔ s.ppu.nmiLatch = true ∨
      (s.ppu.ctrl.getLsbD 7 = false ∧ v.getLsbD 7 = true ∧ s.ppu.status.getLsbD 7 = true))

/-- R274, R276, R277, R278: Mask and the OAM ports. A write increments the OAM pointer, wrapping; a read does not. -/
def Obligations.MaskAndOamPorts : Prop :=
  ∀ (v : Byte) (s : State),
    portWrite 1 v s = .ok () { s with ppu := { s.ppu with mask := v } } ∧
    portWrite 3 v s = .ok () { s with ppu := { s.ppu with oamAddr := v } } ∧
    portRead 4 s = .ok (s.ppu.oam.read s.ppu.oamAddr.toNat) s ∧
    (∃ t, portWrite 4 v s = .ok () t ∧
      t = { s with ppu := { s.ppu with oam := t.ppu.oam, oamAddr := s.ppu.oamAddr + 1#8 } } ∧
      t.ppu.oam.read s.ppu.oamAddr.toNat = v ∧
      ∀ k, k ≠ s.ppu.oamAddr.toNat → t.ppu.oam.read k = s.ppu.oam.read k)

/-- R279, R280: the two two-write ports. Two writes to port 6 from a First latch compose a 14-bit address, high byte
first; two writes to port 5 give X, then Y; the latches are separate, each pair brings its latch back to First, and a
Status read resets both. -/
def Obligations.ScrollAndAddressLatches : Prop :=
  (∀ (h l : Byte) (s : State), s.ppu.addrLatch = .first →
    ∃ t, portWrite 6 h s = .ok () t ∧
      t = { s with ppu := { s.ppu with addr := cat (h &&& 0x3F#8) (lo s.ppu.addr), addrLatch := .second } } ∧
      portWrite 6 l t = .ok () { s with ppu := { s.ppu with addr := cat (h &&& 0x3F#8) l } }) ∧
  (∀ (v : Byte) (s : State), s.ppu.addrLatch = .second →
    portWrite 6 v s = .ok () { s with ppu :=
      { s.ppu with addr := cat (hi s.ppu.addr &&& 0x3F#8) v, addrLatch := .first } }) ∧
  (∀ (x y : Byte) (s : State), s.ppu.scrollLatch = .first →
    ∃ t, portWrite 5 x s = .ok () t ∧
      t = { s with ppu := { s.ppu with scrollX := x, scrollLatch := .second } } ∧
      portWrite 5 y t = .ok () { s with ppu := { s.ppu with scrollX := x, scrollY := y } }) ∧
  (∀ (v : Byte) (s : State), s.ppu.scrollLatch = .second →
    portWrite 5 v s = .ok () { s with ppu := { s.ppu with scrollY := v, scrollLatch := .first } }) ∧
  ∀ s : State, ∃ v t, portRead 2 s = .ok v t ∧ t.ppu.addrLatch = .first ∧ t.ppu.scrollLatch = .first

/-- R275: a Status read returns the bits as they were, clears in-vblank alone of them and resets both latches; a second
read sees in-vblank clear. -/
def Obligations.StatusReadClearsVblankAndLatches : Prop :=
  ∀ s : State, ∃ t, portRead 2 s = .ok s.ppu.status t ∧
    t = { s with ppu := { s.ppu with status := t.ppu.status, addrLatch := .first, scrollLatch := .first } } ∧
    t.ppu.status.getLsbD 7 = false ∧ (∀ k, k ≠ 7 → t.ppu.status.getLsbD k = s.ppu.status.getLsbD k) ∧
    portRead 2 t = .ok t.ppu.status t

/-- R281, R282, R296: a data read returns the buffer and refills it from the cell the address names, or, from the
palette, returns the byte at once and leaves the buffer (D17); the address goes on by 1 or 32 within 14 bits. A
nametable index outside the 2 KB raises VramRange, the address already incremented; that FourScreen is modelled by this
fault is the model's choice between the two treatments D18 allows (log 7). -/
def Obligations.DataReadIsBufferedOneByteBehind : Prop :=
  ∀ s : State, let a := s.ppu.addr
    let on := (a + if s.ppu.ctrl.getLsbD 2 then 32#16 else 1#16) &&& 0x3FFF#16
    let i := mirrorVram s.cart.mirroring a
    (a.toNat ≤ 0x1FFF → portRead 7 s = .ok s.ppu.readBuffer
      { s with ppu := { s.ppu with addr := on, readBuffer := s.cart.chr.read a.toNat } }) ∧
    (0x2000 ≤ a.toNat → a.toNat ≤ 0x3EFF → i < 0x800 → portRead 7 s = .ok s.ppu.readBuffer
      { s with ppu := { s.ppu with addr := on, readBuffer := s.ppu.vram.read i } }) ∧
    (0x2000 ≤ a.toNat → a.toNat ≤ 0x3EFF → 0x800 ≤ i → portRead 7 s = .stop
      { s with run := .vramRange i, ppu := { s.ppu with addr := on } }) ∧
    (0x3F00 ≤ a.toNat → portRead 7 s = .ok (s.ppu.palette.read (paletteIndex a)) { s with ppu := { s.ppu with addr := on } })

/-- R281, R283, R296: a data write stores in the nametable or palette cell the address names, touches no buffer, and the
address goes on; under FourScreen outside the 2 KB it raises VramRange, the address as it was, the model's choice between
the two treatments the spec's D18 allows (log 7). -/
def Obligations.DataWriteStoresAndIncrements : Prop :=
  ∀ (v : Byte) (s : State), let a := s.ppu.addr
    let on := (a + if s.ppu.ctrl.getLsbD 2 then 32#16 else 1#16) &&& 0x3FFF#16
    let i := mirrorVram s.cart.mirroring a
    (0x2000 ≤ a.toNat → a.toNat ≤ 0x3EFF → i < 0x800 → ∃ t, portWrite 7 v s = .ok () t ∧
      t = { s with ppu := { s.ppu with addr := on, vram := t.ppu.vram } } ∧
      t.ppu.vram.read i = v ∧ ∀ k, k ≠ i → t.ppu.vram.read k = s.ppu.vram.read k) ∧
    (0x2000 ≤ a.toNat → a.toNat ≤ 0x3EFF → 0x800 ≤ i → portWrite 7 v s = .stop { s with run := .vramRange i }) ∧
    (0x3F00 ≤ a.toNat → ∃ t, portWrite 7 v s = .ok () t ∧
      t = { s with ppu := { s.ppu with addr := on, palette := t.ppu.palette } } ∧
      t.ppu.palette.read (paletteIndex a) = v ∧
      ∀ k, k ≠ paletteIndex a → t.ppu.palette.read k = s.ppu.palette.read k)

/-- R284, R285, R296, R297: for a nametable address, with 0x3000 to 0x3EFF a mirror (D15), logical window `w` and offset
`o` fold to window `w / 2` under Horizontal and `w % 2` under Vertical, and stay under FourScreen (D18); a palette
address is reduced modulo 32 (D16) and the entries 16, 20, 24, 28 alias 0, 4, 8, 12. -/
def Obligations.NametableFoldAndPaletteAliases : Prop :=
  (∀ a : Word, 0x2000 ≤ a.toNat → a.toNat ≤ 0x3EFF →
    let k := (a.toNat - 0x2000) % 0x1000
    let w := k / 0x400
    let o := k % 0x400
    mirrorVram .horizontal a = w / 2 * 0x400 + o ∧ mirrorVram .vertical a = w % 2 * 0x400 + o ∧
    mirrorVram .fourScreen a = k) ∧
  ∀ a : Word, let k := a.toNat % 32
    paletteIndex a = if 16 ≤ k ∧ k % 4 = 0 then k - 16 else k

/-- R289, R290, R291: one tick of at most 24 PPU cycles. Within a scanline the counter rises; past its end the remainder
carries over (D21) and the scanline rises; reaching 241 sets in-vblank, clears sprite-0 hit and latches an NMI if
generate-NMI is on; reaching 262 begins a new frame, with the latch, sprite-0 hit and in-vblank cleared and the frame
reported. The place in the frame moves by exactly `n` modulo 89342 (constants: D4). -/
def Obligations.TickMovesTheRaster : Prop :=
  ∀ (n : Nat) (q : Ppu), n ≤ 24 → q.cycleCounter < 341 → q.scanLine < 262 →
    let rest := q.cycleCounter + n - 341
    (q.cycleCounter + n < 341 → ppuTick n q = ({ q with cycleCounter := q.cycleCounter + n }, false)) ∧
    (341 ≤ q.cycleCounter + n → q.scanLine ≠ 240 → q.scanLine ≠ 261 →
      ppuTick n q = ({ q with cycleCounter := rest, scanLine := q.scanLine + 1 }, false)) ∧
    (341 ≤ q.cycleCounter + n → q.scanLine = 240 → ppuTick n q =
      ({ q with
          cycleCounter := rest, scanLine := 241, status := (q.status ||| 0x80#8) &&& 0xBF#8
          nmiLatch := q.nmiLatch || q.ctrl.getLsbD 7 }, false)) ∧
    (341 ≤ q.cycleCounter + n → q.scanLine = 261 → ppuTick n q =
      ({ q with cycleCounter := rest, scanLine := 0, status := q.status &&& 0x3F#8, nmiLatch := false }, true)) ∧
    framePosition (ppuTick n q).1 = (framePosition q + n) % 89342

/-! ## The NMI and the step -/

/-- R327, R328, R128: NMI entry pushes the program counter, high byte first, and the status with Break clear and Break2
set, sets Interrupt-Disable and goes to the vector; the poll takes a set latch, clears it and enters, whatever `I` is,
and else changes nothing (entry details: the spec's D5 and D6). -/
def Obligations.NmiEntryAndPoll : Prop :=
  (∀ s : State, nmiEntry s = .ok () { s with
    ram := ((s.ram.write (stackIndex s.sp) (hi s.pc)).write (stackIndex (s.sp - 1#8)) (lo s.pc)).write
      (stackIndex (s.sp - 2#8)) ((s.p &&& ~~~0x10#8) ||| 0x20#8)
    sp := s.sp - 3#8
    p := s.p ||| 0x04#8
    pc := cat (s.cart.prgRead 0xFFFB#16) (s.cart.prgRead 0xFFFA#16) }) ∧
  (∀ s : State, s.ppu.nmiLatch = false → pollNmi s = s) ∧
  ∀ s : State, s.ppu.nmiLatch = true →
    nmiEntry { s with ppu := { s.ppu with nmiLatch := false } } = .ok () (pollNmi s)

/-- R120 to R128: where the bytes the bus reads at `PC` are the encoding of an instruction, a step is that instruction
run with `PC` at byte 1, and then, unless it halted or faulted, the tick of three times the descriptor's cycles, the
frame pulse and the NMI poll. -/
def Obligations.StepRunsTheDecodedInstruction : Prop :=
  ∀ (s t u : State) (i : Instr), s.run = .running →
    fetchBytes (encode i).length s.pc { s with frameComplete := false } = .ok (encode i) t →
    exec i { t with pc := s.pc + 1#16 } = .next u →
    ∃ d, optable i.opcode = some d ∧ step s = .next (if u.run = .running then
      pollNmi { u with ppu := (ppuTick (3 * d.cycles) u.ppu).1, frameComplete := (ppuTick (3 * d.cycles) u.ppu).2 }
    else u)

/-- R19, R121, R321, R320: a step exists exactly while `run` is Running, and then it always answers a next state; a
fetched byte with no descriptor is recorded with its address, `PC` stays, and nothing else of the step happens (D32).
Where the read of the opcode stops, the step answers that state and nothing else happens (R320, R325; VramRange: log 7).
No read of an operand byte stops: the two bytes before the data port are ports 5 and 6, which read as 0x00 (D13), BRK.
The fetch starts with the frame pulse cleared, the model's choice (log 5), as is the form of an ended run (log 1). -/
def Obligations.StepsExistWhileRunningAndUnknownOpcodesEndTheRun : Prop :=
  (∀ s : State, s.run = .running → ∃ t, step s = .next t) ∧
  (∀ s : State, s.run ≠ .running → step s = .fault (.notRunning s.run)) ∧
  (∀ (s t : State) (op : Byte), s.run = .running → busRead s.pc { s with frameComplete := false } = .ok op t →
    op ∈ unknownOpcodes → step s = .next { t with run := .unknownOpcode op s.pc }) ∧
  (∀ s t : State, s.run = .running → busRead s.pc { s with frameComplete := false } = .stop t → step s = .next t) ∧
  ∀ (s u : State) (op : Byte) (d : Descriptor), busRead s.pc { s with frameComplete := false } = .ok op u →
    optable op = some d →
    ∃ bs t, fetchBytes d.format.operandBytes (s.pc + 1#16) { u with pc := s.pc + 1#16 } = .ok bs t

/-- R325, R322: VramRange arises under FourScreen alone, with an index outside the 2 KB, and ContractViolation never. That
FourScreen is modelled by this fault is the model's choice between the two treatments D18 allows (log 7), that a fault is
a state a step answers its form (log 1). -/
def Obligations.FatalFaultsOfAStep : Prop :=
  ∀ s t : State, step s = .next t →
    (∀ k, t.run = .vramRange k → s.cart.mirroring = .fourScreen ∧ 0x800 ≤ k ∧ k ≤ 0xFFF) ∧
    t.run ≠ .contractViolation

/-- R129: `Run` takes one step after the other while `run` is Running, and none when it is not. It never refuses; a state
whose `run` is not Running is its end, which more steps do not change; and every state before the end has `run` Running. -/
def Obligations.RunEndsInTheFirstStateThatIsNotRunning : Prop :=
  (∀ s : State, runFor 0 s = .next s) ∧
  (∀ (n : Nat) (s u : State), s.run = .running → step s = .next u → runFor (n + 1) s = runFor n u) ∧
  (∀ (n : Nat) (s : State), s.run ≠ .running → runFor n s = .next s) ∧
  (∀ (n : Nat) (s : State), ∃ t, runFor n s = .next t) ∧
  ∀ (n m : Nat) (s t : State), runFor n s = .next t →
    (t.run ≠ .running → n ≤ m → runFor m s = .next t) ∧
    (t.run = .running → m ≤ n → ∃ u, runFor m s = .next u ∧ u.run = .running)
end

