-- ==== Sys2Proof/Laws/Flags.lean ====
section
/-! SUPPORT. Every flag after every flag computation, by one lemma for one flag write. -/

namespace Sys2Proof.Machine

/-- One flag write: the flag written takes its value, every other keeps its own. -/
theorem flag_setFlag (p : Byte) (f g : Flag) (on : Bool) : flag (setFlag p f on) g = if g = f then on else flag p g := by
  cases f <;> cases g <;> cases on <;> simp [flag, setFlag, Flag.mask, Flag.bit]

theorem flag_setFlag_same (p : Byte) (f : Flag) (on : Bool) : flag (setFlag p f on) f = on := by
  simp [flag_setFlag]

theorem flag_setFlag_other {f g : Flag} (p : Byte) (on : Bool) (h : g ≠ f) : flag (setFlag p f on) g = flag p g := by
  simp [flag_setFlag, h]

theorem flag_setZN (p v : Byte) (g : Flag) :
    flag (setZN p v) g = if g = .n then v.getLsbD 7 else if g = .z then v == 0#8 else flag p g := by
  simp [setZN, flag_setFlag]

theorem flag_addFlags (a m p : Byte) (g : Flag) :
    flag (addFlags a m p) g =
      if g = .n then (addResult a m (flag p .c)).getLsbD 7
      else if g = .z then addResult a m (flag p .c) == 0#8
      else if g = .v then
        (a ^^^ addResult a m (flag p .c)) &&& (m ^^^ addResult a m (flag p .c)) &&& 0x80#8 != 0#8
      else if g = .c then decide (0xFF < carrySum a m (flag p .c))
      else flag p g := by
  simp [addFlags, flag_setZN, flag_setFlag]

theorem flag_compareFlags (r m p : Byte) (g : Flag) :
    flag (compareFlags r m p) g =
      if g = .n then (r - m).getLsbD 7 else if g = .z then r - m == 0#8
      else if g = .c then decide (m.toNat ≤ r.toNat) else flag p g := by
  simp [compareFlags, flag_setZN, flag_setFlag]

theorem flag_bitFlags (a m p : Byte) (g : Flag) :
    flag (bitFlags a m p) g =
      if g = .v then m.getLsbD 6 else if g = .n then m.getLsbD 7
      else if g = .z then a &&& m == 0#8 else flag p g := by
  simp [bitFlags, flag_setFlag]

theorem flag_shiftFlags (r : Byte) (c : Bool) (p : Byte) (g : Flag) :
    flag (shiftFlags r c p) g =
      if g = .n then r.getLsbD 7 else if g = .z then r == 0#8 else if g = .c then c else flag p g := by
  simp [shiftFlags, flag_setZN, flag_setFlag]

theorem flag_ancFlags (r p : Byte) (g : Flag) :
    flag (ancFlags r p) g =
      if g = .c then r.getLsbD 7 else if g = .n then r.getLsbD 7 else if g = .z then r == 0#8 else flag p g := by
  simp [ancFlags, flag_setZN, flag_setFlag]

theorem flag_arrFlags (r p : Byte) (g : Flag) :
    flag (arrFlags r p) g =
      if g = .v then r.getLsbD 6 ^^ r.getLsbD 5 else if g = .c then r.getLsbD 6
      else if g = .n then r.getLsbD 7 else if g = .z then r == 0#8 else flag p g := by
  simp [arrFlags, flag_setZN, flag_setFlag]

/-- A restored status has Break 0 and Break2 1 and the popped byte's other flags. -/
theorem flag_restoredStatus (v : Byte) (g : Flag) :
    flag (restoredStatus v) g = if g = .b then false else if g = .u then true else flag v g := by
  cases g <;> simp [restoredStatus, flag, Flag.bit]

/-- The status NMI entry pushes restores to a live status. -/
theorem restoredStatus_nmiStatus (p : Byte) : restoredStatus (nmiStatus p) = restoredStatus p := by
  unfold restoredStatus nmiStatus; revert p; decide

/-- Two statuses with the same eight flags are equal. -/
theorem status_ext {p q : Byte} (h : ∀ f, flag p f = flag q f) : p = q := by
  apply BitVec.eq_of_getLsbD_eq
  intro i hi
  have : i = 0 ∨ i = 1 ∨ i = 2 ∨ i = 3 ∨ i = 4 ∨ i = 5 ∨ i = 6 ∨ i = 7 := by omega
  rcases this with rfl | rfl | rfl | rfl | rfl | rfl | rfl | rfl
  exacts [h .c, h .z, h .i, h .d, h .b, h .u, h .v, h .n]

end Sys2Proof.Machine
end

