-- ==== Sys2Proof/Laws/Memory.lean ====
section
/-! SUPPORT. A read after a write, and the canonical form of a byte store under every operation. -/

namespace Sys2Proof

@[simp] theorem Memory.read_nil (a : Nat) : Memory.read [] a = 0#8 := rfl

theorem Memory.read_of_not_mem {m : Memory} {a : Nat} (h : ∀ c ∈ m, c.1 ≠ a) : m.read a = 0#8 := by
  induction m with
  | nil => rfl
  | cons c m ih =>
    rw [Memory.read, if_neg (h c (by simp)), ih fun d hd => h d (by simp [hd])]

theorem Memory.mem_erase {m : Memory} {a : Nat} {c : Host.Cell} : c ∈ m.erase a ↔ c ∈ m ∧ c.1 ≠ a := by
  simp [Memory.erase]

theorem Memory.read_erase_same (m : Memory) (a : Nat) : (m.erase a).read a = 0#8 :=
  Memory.read_of_not_mem fun _ hc => (Memory.mem_erase.1 hc).2

theorem Memory.read_erase_other {m : Memory} {a b : Nat} (h : b ≠ a) : (m.erase a).read b = m.read b := by
  induction m with
  | nil => rfl
  | cons c m ih =>
    by_cases hc : c.1 = a
    · rw [show Memory.erase (c :: m) a = Memory.erase m a by simp [Memory.erase, hc], ih, Memory.read,
        if_neg (by omega)]
    · rw [show Memory.erase (c :: m) a = c :: Memory.erase m a by simp [Memory.erase, hc], Memory.read, Memory.read, ih]

theorem Memory.mem_insert {m : Memory} {a : Nat} {v : BitVec 8} {c : Host.Cell} :
    c ∈ m.insert a v ↔ c = (a, v) ∨ c ∈ m := by
  induction m with
  | nil => simp [Memory.insert]
  | cons d m ih =>
    unfold Memory.insert; split
    · simp
    · simp only [List.mem_cons, ih]; tauto

theorem Memory.read_insert_same {m : Memory} {a : Nat} {v : BitVec 8} (h : ∀ c ∈ m, c.1 ≠ a) :
    (m.insert a v).read a = v := by
  induction m with
  | nil => simp [Memory.insert, Memory.read]
  | cons c m ih =>
    unfold Memory.insert; split
    · simp [Memory.read]
    · rw [Memory.read, if_neg (h c (by simp)), ih fun d hd => h d (by simp [hd])]

theorem Memory.read_insert_other {m : Memory} {a b : Nat} {v : BitVec 8} (h : b ≠ a) :
    (m.insert a v).read b = m.read b := by
  induction m with
  | nil => simp [Memory.insert, Memory.read, h.symm]
  | cons c m ih =>
    unfold Memory.insert; split
    · simp [Memory.read, h.symm]
    · rw [Memory.read, ih, Memory.read]

@[simp] theorem Memory.read_write_same (m : Memory) (a : Nat) (v : BitVec 8) : (m.write a v).read a = v := by
  unfold Memory.write; split
  · next h => rw [Memory.read_erase_same, h]
  · exact Memory.read_insert_same fun _ hc => (Memory.mem_erase.1 hc).2

theorem Memory.read_write_other {a b : Nat} (m : Memory) (v : BitVec 8) (h : b ≠ a) :
    (m.write a v).read b = m.read b := by
  unfold Memory.write; split
  · exact Memory.read_erase_other h
  · rw [Memory.read_insert_other h, Memory.read_erase_other h]

theorem Memory.read_write (m : Memory) (a b : Nat) (v : BitVec 8) :
    (m.write a v).read b = if b = a then v else m.read b := by
  split
  · next h => rw [h, Memory.read_write_same]
  · next h => exact Memory.read_write_other m v h

theorem Memory.wf_nil : Memory.wf [] := ⟨.nil, fun _ h => by simp at h⟩

theorem Memory.erase_wf {m : Memory} (a : Nat) (h : m.wf) : (m.erase a).wf :=
  ⟨h.1.filter _, fun c hc => h.2 c (Memory.mem_erase.1 hc).1⟩

theorem Memory.insert_sorted {m : Memory} {a : Nat} (v : BitVec 8) (h : m.Pairwise (fun c d => c.1 < d.1))
    (ha : ∀ c ∈ m, c.1 ≠ a) : (m.insert a v).Pairwise (fun c d => c.1 < d.1) := by
  induction m with
  | nil => simp [Memory.insert]
  | cons c m ih =>
    rw [List.pairwise_cons] at h
    unfold Memory.insert; split
    · next hlt =>
      refine List.pairwise_cons.2 ⟨fun d hd => ?_, List.pairwise_cons.2 h⟩
      rcases List.mem_cons.1 hd with rfl | hd
      · exact hlt
      · exact Nat.lt_trans hlt (h.1 d hd)
    · next hge =>
      refine List.pairwise_cons.2 ⟨fun d hd => ?_, ih h.2 fun d hd => ha d (by simp [hd])⟩
      rcases Memory.mem_insert.1 hd with rfl | hd
      · have := ha c (by simp); simp only; omega
      · exact h.1 d hd

theorem Memory.write_wf {m : Memory} (a : Nat) (v : BitVec 8) (h : m.wf) : (m.write a v).wf := by
  unfold Memory.write; split
  · exact Memory.erase_wf a h
  · next hv =>
    refine ⟨Memory.insert_sorted v (Memory.erase_wf a h).1 fun _ hc => (Memory.mem_erase.1 hc).2, fun c hc => ?_⟩
    rcases Memory.mem_insert.1 hc with rfl | hc
    · exact hv
    · exact (Memory.erase_wf a h).2 c hc

theorem Memory.write_within {m : Memory} {n a : Nat} (v : BitVec 8) (ha : a < n) (h : m.within n) :
    (m.write a v).within n := by
  unfold Memory.write; split
  · exact fun c hc => h c (Memory.mem_erase.1 hc).1
  · intro c hc
    rcases Memory.mem_insert.1 hc with rfl | hc
    · exact ha
    · exact h c (Memory.mem_erase.1 hc).1

theorem Memory.ofBytes_bounds (a : Nat) (bs : List (BitVec 8)) :
    ∀ c ∈ Memory.ofBytes a bs, a ≤ c.1 ∧ c.1 < a + bs.length := by
  induction bs generalizing a with
  | nil => simp [Memory.ofBytes]
  | cons b bs ih =>
    intro c hc
    have hlen : (b :: bs).length = bs.length + 1 := rfl
    unfold Memory.ofBytes at hc; split at hc
    · have := ih (a + 1) c hc; omega
    · rcases List.mem_cons.1 hc with rfl | hc
      · simp
      · have := ih (a + 1) c hc; omega

theorem Memory.ofBytes_wf (a : Nat) (bs : List (BitVec 8)) : (Memory.ofBytes a bs).wf := by
  induction bs generalizing a with
  | nil => exact Memory.wf_nil
  | cons b bs ih =>
    unfold Memory.ofBytes; split
    · exact ih (a + 1)
    · next hb =>
      refine ⟨List.pairwise_cons.2 ⟨fun c hc => ?_, (ih (a + 1)).1⟩, fun c hc => ?_⟩
      · have := Memory.ofBytes_bounds (a + 1) bs c hc; simp only; omega
      · rcases List.mem_cons.1 hc with rfl | hc
        · exact hb
        · exact (ih (a + 1)).2 c hc

theorem Memory.read_ofBytes (a : Nat) (bs : List (BitVec 8)) (k : Nat) :
    (Memory.ofBytes a bs).read (a + k) = bs.getD k 0#8 := by
  induction bs generalizing a k with
  | nil => simp [Memory.ofBytes]
  | cons b bs ih =>
    unfold Memory.ofBytes
    cases k with
    | zero =>
      split
      · next hb =>
        rw [Memory.read_of_not_mem fun c hc => by have := Memory.ofBytes_bounds _ _ c hc; omega]
        simp [hb]
      · simp [Memory.read]
    | succ k =>
      have e : a + (k + 1) = a + 1 + k := by omega
      split
      · rw [e, ih]; simp
      · rw [Memory.read, if_neg (by simp), e, ih]; simp

end Sys2Proof
end

