-- ==== Sys2Proof/Laws/State.lean ====
section
/-! SUPPORT. One lemma per field per update of State. -/

namespace Sys2Proof.Machine

@[simp] theorem State.setA_a (s : State) (v : Byte) : (s.setA v).a = v := rfl
@[simp] theorem State.setA_x (s : State) (v : Byte) : (s.setA v).x = s.x := rfl
@[simp] theorem State.setA_y (s : State) (v : Byte) : (s.setA v).y = s.y := rfl
@[simp] theorem State.setA_sp (s : State) (v : Byte) : (s.setA v).sp = s.sp := rfl
@[simp] theorem State.setA_p (s : State) (v : Byte) : (s.setA v).p = s.p := rfl
@[simp] theorem State.setA_pc (s : State) (v : Byte) : (s.setA v).pc = s.pc := rfl
@[simp] theorem State.setA_run (s : State) (v : Byte) : (s.setA v).run = s.run := rfl
@[simp] theorem State.setA_report (s : State) (v : Byte) : (s.setA v).report = s.report := rfl
@[simp] theorem State.setA_ram (s : State) (v : Byte) : (s.setA v).ram = s.ram := rfl
@[simp] theorem State.setA_ppu (s : State) (v : Byte) : (s.setA v).ppu = s.ppu := rfl
@[simp] theorem State.setA_cart (s : State) (v : Byte) : (s.setA v).cart = s.cart := rfl
@[simp] theorem State.setA_frameComplete (s : State) (v : Byte) : (s.setA v).frameComplete = s.frameComplete := rfl

@[simp] theorem State.setX_a (s : State) (v : Byte) : (s.setX v).a = s.a := rfl
@[simp] theorem State.setX_x (s : State) (v : Byte) : (s.setX v).x = v := rfl
@[simp] theorem State.setX_y (s : State) (v : Byte) : (s.setX v).y = s.y := rfl
@[simp] theorem State.setX_sp (s : State) (v : Byte) : (s.setX v).sp = s.sp := rfl
@[simp] theorem State.setX_p (s : State) (v : Byte) : (s.setX v).p = s.p := rfl
@[simp] theorem State.setX_pc (s : State) (v : Byte) : (s.setX v).pc = s.pc := rfl
@[simp] theorem State.setX_run (s : State) (v : Byte) : (s.setX v).run = s.run := rfl
@[simp] theorem State.setX_report (s : State) (v : Byte) : (s.setX v).report = s.report := rfl
@[simp] theorem State.setX_ram (s : State) (v : Byte) : (s.setX v).ram = s.ram := rfl
@[simp] theorem State.setX_ppu (s : State) (v : Byte) : (s.setX v).ppu = s.ppu := rfl
@[simp] theorem State.setX_cart (s : State) (v : Byte) : (s.setX v).cart = s.cart := rfl
@[simp] theorem State.setX_frameComplete (s : State) (v : Byte) : (s.setX v).frameComplete = s.frameComplete := rfl

@[simp] theorem State.setY_a (s : State) (v : Byte) : (s.setY v).a = s.a := rfl
@[simp] theorem State.setY_x (s : State) (v : Byte) : (s.setY v).x = s.x := rfl
@[simp] theorem State.setY_y (s : State) (v : Byte) : (s.setY v).y = v := rfl
@[simp] theorem State.setY_sp (s : State) (v : Byte) : (s.setY v).sp = s.sp := rfl
@[simp] theorem State.setY_p (s : State) (v : Byte) : (s.setY v).p = s.p := rfl
@[simp] theorem State.setY_pc (s : State) (v : Byte) : (s.setY v).pc = s.pc := rfl
@[simp] theorem State.setY_run (s : State) (v : Byte) : (s.setY v).run = s.run := rfl
@[simp] theorem State.setY_report (s : State) (v : Byte) : (s.setY v).report = s.report := rfl
@[simp] theorem State.setY_ram (s : State) (v : Byte) : (s.setY v).ram = s.ram := rfl
@[simp] theorem State.setY_ppu (s : State) (v : Byte) : (s.setY v).ppu = s.ppu := rfl
@[simp] theorem State.setY_cart (s : State) (v : Byte) : (s.setY v).cart = s.cart := rfl
@[simp] theorem State.setY_frameComplete (s : State) (v : Byte) : (s.setY v).frameComplete = s.frameComplete := rfl

@[simp] theorem State.setSp_a (s : State) (v : Byte) : (s.setSp v).a = s.a := rfl
@[simp] theorem State.setSp_x (s : State) (v : Byte) : (s.setSp v).x = s.x := rfl
@[simp] theorem State.setSp_y (s : State) (v : Byte) : (s.setSp v).y = s.y := rfl
@[simp] theorem State.setSp_sp (s : State) (v : Byte) : (s.setSp v).sp = v := rfl
@[simp] theorem State.setSp_p (s : State) (v : Byte) : (s.setSp v).p = s.p := rfl
@[simp] theorem State.setSp_pc (s : State) (v : Byte) : (s.setSp v).pc = s.pc := rfl
@[simp] theorem State.setSp_run (s : State) (v : Byte) : (s.setSp v).run = s.run := rfl
@[simp] theorem State.setSp_report (s : State) (v : Byte) : (s.setSp v).report = s.report := rfl
@[simp] theorem State.setSp_ram (s : State) (v : Byte) : (s.setSp v).ram = s.ram := rfl
@[simp] theorem State.setSp_ppu (s : State) (v : Byte) : (s.setSp v).ppu = s.ppu := rfl
@[simp] theorem State.setSp_cart (s : State) (v : Byte) : (s.setSp v).cart = s.cart := rfl
@[simp] theorem State.setSp_frameComplete (s : State) (v : Byte) : (s.setSp v).frameComplete = s.frameComplete := rfl

@[simp] theorem State.setP_a (s : State) (v : Byte) : (s.setP v).a = s.a := rfl
@[simp] theorem State.setP_x (s : State) (v : Byte) : (s.setP v).x = s.x := rfl
@[simp] theorem State.setP_y (s : State) (v : Byte) : (s.setP v).y = s.y := rfl
@[simp] theorem State.setP_sp (s : State) (v : Byte) : (s.setP v).sp = s.sp := rfl
@[simp] theorem State.setP_p (s : State) (v : Byte) : (s.setP v).p = v := rfl
@[simp] theorem State.setP_pc (s : State) (v : Byte) : (s.setP v).pc = s.pc := rfl
@[simp] theorem State.setP_run (s : State) (v : Byte) : (s.setP v).run = s.run := rfl
@[simp] theorem State.setP_report (s : State) (v : Byte) : (s.setP v).report = s.report := rfl
@[simp] theorem State.setP_ram (s : State) (v : Byte) : (s.setP v).ram = s.ram := rfl
@[simp] theorem State.setP_ppu (s : State) (v : Byte) : (s.setP v).ppu = s.ppu := rfl
@[simp] theorem State.setP_cart (s : State) (v : Byte) : (s.setP v).cart = s.cart := rfl
@[simp] theorem State.setP_frameComplete (s : State) (v : Byte) : (s.setP v).frameComplete = s.frameComplete := rfl

@[simp] theorem State.setPc_a (s : State) (v : Word) : (s.setPc v).a = s.a := rfl
@[simp] theorem State.setPc_x (s : State) (v : Word) : (s.setPc v).x = s.x := rfl
@[simp] theorem State.setPc_y (s : State) (v : Word) : (s.setPc v).y = s.y := rfl
@[simp] theorem State.setPc_sp (s : State) (v : Word) : (s.setPc v).sp = s.sp := rfl
@[simp] theorem State.setPc_p (s : State) (v : Word) : (s.setPc v).p = s.p := rfl
@[simp] theorem State.setPc_pc (s : State) (v : Word) : (s.setPc v).pc = v := rfl
@[simp] theorem State.setPc_run (s : State) (v : Word) : (s.setPc v).run = s.run := rfl
@[simp] theorem State.setPc_report (s : State) (v : Word) : (s.setPc v).report = s.report := rfl
@[simp] theorem State.setPc_ram (s : State) (v : Word) : (s.setPc v).ram = s.ram := rfl
@[simp] theorem State.setPc_ppu (s : State) (v : Word) : (s.setPc v).ppu = s.ppu := rfl
@[simp] theorem State.setPc_cart (s : State) (v : Word) : (s.setPc v).cart = s.cart := rfl
@[simp] theorem State.setPc_frameComplete (s : State) (v : Word) : (s.setPc v).frameComplete = s.frameComplete := rfl

@[simp] theorem State.setRun_a (s : State) (v : RunStatus) : (s.setRun v).a = s.a := rfl
@[simp] theorem State.setRun_x (s : State) (v : RunStatus) : (s.setRun v).x = s.x := rfl
@[simp] theorem State.setRun_y (s : State) (v : RunStatus) : (s.setRun v).y = s.y := rfl
@[simp] theorem State.setRun_sp (s : State) (v : RunStatus) : (s.setRun v).sp = s.sp := rfl
@[simp] theorem State.setRun_p (s : State) (v : RunStatus) : (s.setRun v).p = s.p := rfl
@[simp] theorem State.setRun_pc (s : State) (v : RunStatus) : (s.setRun v).pc = s.pc := rfl
@[simp] theorem State.setRun_run (s : State) (v : RunStatus) : (s.setRun v).run = v := rfl
@[simp] theorem State.setRun_report (s : State) (v : RunStatus) : (s.setRun v).report = s.report := rfl
@[simp] theorem State.setRun_ram (s : State) (v : RunStatus) : (s.setRun v).ram = s.ram := rfl
@[simp] theorem State.setRun_ppu (s : State) (v : RunStatus) : (s.setRun v).ppu = s.ppu := rfl
@[simp] theorem State.setRun_cart (s : State) (v : RunStatus) : (s.setRun v).cart = s.cart := rfl
@[simp] theorem State.setRun_frameComplete (s : State) (v : RunStatus) : (s.setRun v).frameComplete = s.frameComplete := rfl

@[simp] theorem State.setReport_a (s : State) (v : Report) : (s.setReport v).a = s.a := rfl
@[simp] theorem State.setReport_x (s : State) (v : Report) : (s.setReport v).x = s.x := rfl
@[simp] theorem State.setReport_y (s : State) (v : Report) : (s.setReport v).y = s.y := rfl
@[simp] theorem State.setReport_sp (s : State) (v : Report) : (s.setReport v).sp = s.sp := rfl
@[simp] theorem State.setReport_p (s : State) (v : Report) : (s.setReport v).p = s.p := rfl
@[simp] theorem State.setReport_pc (s : State) (v : Report) : (s.setReport v).pc = s.pc := rfl
@[simp] theorem State.setReport_run (s : State) (v : Report) : (s.setReport v).run = s.run := rfl
@[simp] theorem State.setReport_report (s : State) (v : Report) : (s.setReport v).report = v := rfl
@[simp] theorem State.setReport_ram (s : State) (v : Report) : (s.setReport v).ram = s.ram := rfl
@[simp] theorem State.setReport_ppu (s : State) (v : Report) : (s.setReport v).ppu = s.ppu := rfl
@[simp] theorem State.setReport_cart (s : State) (v : Report) : (s.setReport v).cart = s.cart := rfl
@[simp] theorem State.setReport_frameComplete (s : State) (v : Report) : (s.setReport v).frameComplete = s.frameComplete := rfl

@[simp] theorem State.setRam_a (s : State) (v : Memory) : (s.setRam v).a = s.a := rfl
@[simp] theorem State.setRam_x (s : State) (v : Memory) : (s.setRam v).x = s.x := rfl
@[simp] theorem State.setRam_y (s : State) (v : Memory) : (s.setRam v).y = s.y := rfl
@[simp] theorem State.setRam_sp (s : State) (v : Memory) : (s.setRam v).sp = s.sp := rfl
@[simp] theorem State.setRam_p (s : State) (v : Memory) : (s.setRam v).p = s.p := rfl
@[simp] theorem State.setRam_pc (s : State) (v : Memory) : (s.setRam v).pc = s.pc := rfl
@[simp] theorem State.setRam_run (s : State) (v : Memory) : (s.setRam v).run = s.run := rfl
@[simp] theorem State.setRam_report (s : State) (v : Memory) : (s.setRam v).report = s.report := rfl
@[simp] theorem State.setRam_ram (s : State) (v : Memory) : (s.setRam v).ram = v := rfl
@[simp] theorem State.setRam_ppu (s : State) (v : Memory) : (s.setRam v).ppu = s.ppu := rfl
@[simp] theorem State.setRam_cart (s : State) (v : Memory) : (s.setRam v).cart = s.cart := rfl
@[simp] theorem State.setRam_frameComplete (s : State) (v : Memory) : (s.setRam v).frameComplete = s.frameComplete := rfl

@[simp] theorem State.setPpu_a (s : State) (v : Ppu) : (s.setPpu v).a = s.a := rfl
@[simp] theorem State.setPpu_x (s : State) (v : Ppu) : (s.setPpu v).x = s.x := rfl
@[simp] theorem State.setPpu_y (s : State) (v : Ppu) : (s.setPpu v).y = s.y := rfl
@[simp] theorem State.setPpu_sp (s : State) (v : Ppu) : (s.setPpu v).sp = s.sp := rfl
@[simp] theorem State.setPpu_p (s : State) (v : Ppu) : (s.setPpu v).p = s.p := rfl
@[simp] theorem State.setPpu_pc (s : State) (v : Ppu) : (s.setPpu v).pc = s.pc := rfl
@[simp] theorem State.setPpu_run (s : State) (v : Ppu) : (s.setPpu v).run = s.run := rfl
@[simp] theorem State.setPpu_report (s : State) (v : Ppu) : (s.setPpu v).report = s.report := rfl
@[simp] theorem State.setPpu_ram (s : State) (v : Ppu) : (s.setPpu v).ram = s.ram := rfl
@[simp] theorem State.setPpu_ppu (s : State) (v : Ppu) : (s.setPpu v).ppu = v := rfl
@[simp] theorem State.setPpu_cart (s : State) (v : Ppu) : (s.setPpu v).cart = s.cart := rfl
@[simp] theorem State.setPpu_frameComplete (s : State) (v : Ppu) : (s.setPpu v).frameComplete = s.frameComplete := rfl

@[simp] theorem State.setCart_a (s : State) (v : Cartridge) : (s.setCart v).a = s.a := rfl
@[simp] theorem State.setCart_x (s : State) (v : Cartridge) : (s.setCart v).x = s.x := rfl
@[simp] theorem State.setCart_y (s : State) (v : Cartridge) : (s.setCart v).y = s.y := rfl
@[simp] theorem State.setCart_sp (s : State) (v : Cartridge) : (s.setCart v).sp = s.sp := rfl
@[simp] theorem State.setCart_p (s : State) (v : Cartridge) : (s.setCart v).p = s.p := rfl
@[simp] theorem State.setCart_pc (s : State) (v : Cartridge) : (s.setCart v).pc = s.pc := rfl
@[simp] theorem State.setCart_run (s : State) (v : Cartridge) : (s.setCart v).run = s.run := rfl
@[simp] theorem State.setCart_report (s : State) (v : Cartridge) : (s.setCart v).report = s.report := rfl
@[simp] theorem State.setCart_ram (s : State) (v : Cartridge) : (s.setCart v).ram = s.ram := rfl
@[simp] theorem State.setCart_ppu (s : State) (v : Cartridge) : (s.setCart v).ppu = s.ppu := rfl
@[simp] theorem State.setCart_cart (s : State) (v : Cartridge) : (s.setCart v).cart = v := rfl
@[simp] theorem State.setCart_frameComplete (s : State) (v : Cartridge) : (s.setCart v).frameComplete = s.frameComplete := rfl

@[simp] theorem State.setFrameComplete_a (s : State) (v : Bool) : (s.setFrameComplete v).a = s.a := rfl
@[simp] theorem State.setFrameComplete_x (s : State) (v : Bool) : (s.setFrameComplete v).x = s.x := rfl
@[simp] theorem State.setFrameComplete_y (s : State) (v : Bool) : (s.setFrameComplete v).y = s.y := rfl
@[simp] theorem State.setFrameComplete_sp (s : State) (v : Bool) : (s.setFrameComplete v).sp = s.sp := rfl
@[simp] theorem State.setFrameComplete_p (s : State) (v : Bool) : (s.setFrameComplete v).p = s.p := rfl
@[simp] theorem State.setFrameComplete_pc (s : State) (v : Bool) : (s.setFrameComplete v).pc = s.pc := rfl
@[simp] theorem State.setFrameComplete_run (s : State) (v : Bool) : (s.setFrameComplete v).run = s.run := rfl
@[simp] theorem State.setFrameComplete_report (s : State) (v : Bool) : (s.setFrameComplete v).report = s.report := rfl
@[simp] theorem State.setFrameComplete_ram (s : State) (v : Bool) : (s.setFrameComplete v).ram = s.ram := rfl
@[simp] theorem State.setFrameComplete_ppu (s : State) (v : Bool) : (s.setFrameComplete v).ppu = s.ppu := rfl
@[simp] theorem State.setFrameComplete_cart (s : State) (v : Bool) : (s.setFrameComplete v).cart = s.cart := rfl
@[simp] theorem State.setFrameComplete_frameComplete (s : State) (v : Bool) : (s.setFrameComplete v).frameComplete = v := rfl

end Sys2Proof.Machine
end

