-- ==== Sys2Proof/Laws/Bus.lean ====
section
/-! SUPPORT. Everything a bus access can do, the stack primitives as equations, and NMI entry. -/

namespace Sys2Proof.Machine

/-! ## Sequencing -/

@[simp] theorem Access.ok_andThen {α β : Type} (v : α) (s : State) (f : α → State → Access β) :
    (Access.ok v s).andThen f = f v s := rfl

@[simp] theorem Access.stop_andThen {α β : Type} (s : State) (f : α → State → Access β) :
    (Access.stop s : Access α).andThen f = .stop s := rfl

theorem Access.andThen_eq_ok {α β : Type} {r : Access α} {f : α → State → Access β} {v : β} {t : State} :
    r.andThen f = .ok v t ↔ ∃ w u, r = .ok w u ∧ f w u = .ok v t := by
  cases r <;> simp

theorem Access.andThen_eq_stop {α β : Type} {r : Access α} {f : α → State → Access β} {t : State} :
    r.andThen f = .stop t ↔ r = .stop t ∨ ∃ w u, r = .ok w u ∧ f w u = .stop t := by
  cases r <;> simp

@[simp] theorem Access.ok_advance (s : State) (n : Nat) :
    (Access.ok () s).advance n = .next (s.setPc (s.pc + BitVec.ofNat 16 n)) := rfl

@[simp] theorem Access.stop_advance (s : State) (n : Nat) : (Access.stop s).advance n = .next s := rfl

@[simp] theorem Access.ok_jump (w : Word) (s : State) : (Access.ok w s).jump = .next (s.setPc w) := rfl

@[simp] theorem Access.stop_jump (s : State) : (Access.stop s).jump = .next s := rfl

/-! ## Address arithmetic -/

@[simp] theorem zext_toNat (b : Byte) : (zext b).toNat = b.toNat := by simp [zext]; omega

theorem stackAddr_toNat (sp : Byte) : (stackAddr sp).toNat = 0x100 + sp.toNat := by
  have := sp.isLt
  simp [stackAddr, Params.stackBase, BitVec.toNat_add]; omega

theorem ramIndex_eq (a : Word) : ramIndex a = a.toNat % 0x800 := by
  simp only [ramIndex, BitVec.toNat_and]
  exact Nat.and_two_pow_sub_one_eq_mod a.toNat 11

theorem ramIndex_lt (a : Word) : ramIndex a < Params.ramSize := by
  rw [ramIndex_eq]; exact Nat.mod_lt _ (by decide)

theorem ramIndex_stackAddr (sp : Byte) : ramIndex (stackAddr sp) = 0x100 + sp.toNat := by
  have := sp.isLt
  rw [ramIndex_eq, stackAddr_toNat]; omega

theorem ramIndex_zext (b : Byte) : ramIndex (zext b) = b.toNat := by
  have := b.isLt
  rw [ramIndex_eq, zext_toNat]; omega

theorem cat_toNat (h l : Byte) : (cat h l).toNat = h.toNat * 256 + l.toNat := by
  have := l.isLt
  unfold cat
  rw [BitVec.toNat_append, ← Nat.shiftLeft_add_eq_or_of_lt this, Nat.shiftLeft_eq]

theorem hi_toNat (w : Word) : (hi w).toNat = w.toNat / 256 := by
  have := w.isLt
  simp only [hi, BitVec.extractLsb'_toNat, Nat.shiftRight_eq_div_pow]; omega

theorem lo_toNat (w : Word) : (lo w).toNat = w.toNat % 256 := by
  simp [lo, BitVec.extractLsb'_toNat]

@[simp] theorem hi_cat (h l : Byte) : hi (cat h l) = h := by
  have := l.isLt
  apply BitVec.eq_of_toNat_eq; rw [hi_toNat, cat_toNat]; omega

@[simp] theorem lo_cat (h l : Byte) : lo (cat h l) = l := by
  have := l.isLt
  apply BitVec.eq_of_toNat_eq; rw [lo_toNat, cat_toNat]; omega

@[simp] theorem cat_hi_lo (w : Word) : cat (hi w) (lo w) = w := by
  apply BitVec.eq_of_toNat_eq; rw [cat_toNat, hi_toNat, lo_toNat]; omega

/-! ## The RAM window -/

theorem busRead_ram {a : Word} (s : State) (h : a.toNat ≤ 0x1FFF) :
    busRead a s = .ok (s.ram.read (ramIndex a)) s := by simp [busRead, h]

theorem busWrite_ram {a : Word} (v : Byte) (s : State) (h : a.toNat ≤ 0x1FFF) :
    busWrite a v s = .ok () (s.setRam (s.ram.write (ramIndex a) v)) := by simp [busWrite, h]

theorem busRead_zext (b : Byte) (s : State) : busRead (zext b) s = .ok (s.ram.read b.toNat) s := by
  have := b.isLt
  rw [busRead_ram s (by rw [zext_toNat]; omega), ramIndex_zext]

theorem busRead_rom {a : Word} (s : State) (h : 0x8000 ≤ a.toNat) : busRead a s = .ok (s.cart.prgRead a) s := by
  have h1 : ¬ a.toNat ≤ 0x1FFF := by omega
  have h2 : ¬ a.toNat ≤ 0x3FFF := by omega
  simp [busRead, h, h1, h2]

/-- A read outside the port window changes nothing (20_memory.md R61). -/
theorem busRead_off_ports {a : Word} (s : State) (h : a.toNat < 0x2000 ∨ 0x4000 ≤ a.toNat) :
    ∃ v, busRead a s = .ok v s := by
  unfold busRead
  split_ifs <;> first | exact ⟨_, rfl⟩ | omega

/-- A write outside the port window does not reach the PPU (R52, R61). -/
theorem busWrite_off_ports {a : Word} (v : Byte) (s : State) (h : a.toNat < 0x2000 ∨ 0x4000 ≤ a.toNat) :
    ∃ t, busWrite a v s = .ok () t ∧ t.ppu = s.ppu := by
  unfold busWrite
  split_ifs <;> first | exact ⟨_, rfl, rfl⟩ | omega

/-- What a mode other than Indirect resolves to takes no side effect. -/
theorem zeroPagePointer_eq (b : Byte) (s : State) :
    (busRead (zext b) s).andThen (fun l s => (busRead (zext (b + 1#8)) s).andThen fun h s => .ok (cat h l) s) =
      Access.ok (cat (s.ram.read (b + 1#8).toNat) (s.ram.read b.toNat)) s := by
  simp [busRead_zext]

/-! ## The stack -/

theorem push8_eq (v : Byte) (s : State) :
    push8 v s = .ok () ((s.setRam (s.ram.write (0x100 + s.sp.toNat) v)).setSp (s.sp - 1#8)) := by
  have := s.sp.isLt
  rw [push8, busWrite_ram v s (by rw [stackAddr_toNat]; omega), ramIndex_stackAddr]; rfl

theorem pop8_eq (s : State) :
    pop8 s = .ok (s.ram.read (0x100 + (s.sp + 1#8).toNat)) (s.setSp (s.sp + 1#8)) := by
  have := (s.sp + 1#8).isLt
  rw [pop8, busRead_ram _ (by rw [stackAddr_toNat]; omega), ramIndex_stackAddr]; rfl

theorem push16_eq (w : Word) (s : State) :
    push16 w s = .ok () ((s.setRam ((s.ram.write (0x100 + s.sp.toNat) (hi w)).write
      (0x100 + (s.sp - 1#8).toNat) (lo w))).setSp (s.sp - 2#8)) := by
  rw [push16, push8_eq, Access.ok_andThen, push8_eq]
  simp [State.setRam, State.setSp, BitVec.sub_sub]

theorem pop16_eq (s : State) :
    pop16 s = .ok (cat (s.ram.read (0x100 + (s.sp + 2#8).toNat)) (s.ram.read (0x100 + (s.sp + 1#8).toNat)))
      (s.setSp (s.sp + 2#8)) := by
  rw [pop16, pop8_eq, Access.ok_andThen, pop8_eq]
  simp [State.setSp, BitVec.add_assoc]

theorem read16_rom {a : Word} (s : State) (h : 0x8000 ≤ a.toNat) (h' : 0x8000 ≤ (a + 1#16).toNat) :
    read16 a s = .ok (s.cart.vector a) s := by
  simp [read16, busRead_rom _ h, busRead_rom _ h', Cartridge.vector]

/-- Reset's program counter is what `Read16` of the reset vector gives (70_reset_and_hazards.md R351). -/
theorem read16_resetVector (s : State) : read16 Params.resetVector s = .ok (s.cart.vector Params.resetVector) s :=
  read16_rom s (by decide) (by decide)

theorem nmiEntry_eq (s : State) :
    nmiEntry s = .ok () { s with
      ram := ((s.ram.write (0x100 + s.sp.toNat) (hi s.pc)).write (0x100 + (s.sp - 1#8).toNat) (lo s.pc)).write
        (0x100 + (s.sp - 2#8).toNat) (nmiStatus s.p)
      sp := s.sp - 3#8
      p := setFlag s.p .i true
      pc := s.cart.vector Params.nmiVector } := by
  rw [nmiEntry, push16_eq, Access.ok_andThen, push8_eq, Access.ok_andThen,
    read16_rom _ (by decide) (by decide), Access.ok_andThen]
  simp [State.setRam, State.setSp, State.setP, State.setPc, BitVec.sub_sub]

/-- The poll takes a set latch and nothing else. -/
theorem pollNmi_cases (s : State) :
    s.ppu.nmiLatch = false ∧ pollNmi s = s ∨
    s.ppu.nmiLatch = true ∧ pollNmi s = { s with
      ram := ((s.ram.write (0x100 + s.sp.toNat) (hi s.pc)).write (0x100 + (s.sp - 1#8).toNat) (lo s.pc)).write
        (0x100 + (s.sp - 2#8).toNat) (nmiStatus s.p)
      sp := s.sp - 3#8
      p := setFlag s.p .i true
      pc := s.cart.vector Params.nmiVector
      ppu := { s.ppu with nmiLatch := false } } := by
  cases h : s.ppu.nmiLatch
  · exact .inl ⟨rfl, by simp [pollNmi, h]⟩
  · exact .inr ⟨rfl, by simp [pollNmi, h, nmiEntry_eq, Access.state, State.updPpu, State.setPpu]⟩

theorem returnFromNmi_eq (s : State) :
    returnFromNmi s = .ok (cat (s.ram.read (0x100 + (s.sp + 3#8).toNat)) (s.ram.read (0x100 + (s.sp + 2#8).toNat)))
      ((s.setP (restoredStatus (s.ram.read (0x100 + (s.sp + 1#8).toNat)))).setSp (s.sp + 3#8)) := by
  rw [returnFromNmi, pop8_eq, Access.ok_andThen, pop16_eq]
  simp [State.setP, State.setSp, BitVec.add_assoc]

/-! ## The ports -/

/-- A nametable address less 0x2000, its mirror at 0x3000 folded away (R284). -/
theorem nametableOffset {a : Word} (h1 : 0x2000 ≤ a.toNat) (h2 : a.toNat ≤ 0x3EFF) :
    (a &&& 0x2FFF#16).toNat - 0x2000 = (a.toNat - 0x2000) % 0x1000 := by
  have hm : (a &&& 0x2FFF#16).toNat % 2 ^ 12 = a.toNat % 2 ^ 12 := by
    rw [BitVec.toNat_and, Nat.and_mod_two_pow]
    exact (Nat.and_two_pow_sub_one_eq_mod _ 12).trans (Nat.mod_mod _ _)
  have hd : (a &&& 0x2FFF#16).toNat / 2 ^ 12 = 2 := by
    rw [BitVec.toNat_and, Nat.and_div_two_pow]
    have : a.toNat / 2 ^ 12 = 2 ∨ a.toNat / 2 ^ 12 = 3 := by omega
    rcases this with h | h <;> rw [h] <;> rfl
  omega

/-- The fold as arithmetic on the window `w` and the offset in it (R284, R296, R297). -/
theorem mirrorVram_eq (m : Mirroring) {a : Word} (h1 : 0x2000 ≤ a.toNat) (h2 : a.toNat ≤ 0x3EFF) :
    mirrorVram m a = match m with
      | .horizontal => (a.toNat - 0x2000) % 0x1000 / 0x400 / 2 * 0x400 + (a.toNat - 0x2000) % 0x1000 % 0x400
      | .vertical => (a.toNat - 0x2000) % 0x1000 / 0x400 % 2 * 0x400 + (a.toNat - 0x2000) % 0x1000 % 0x400
      | .fourScreen => (a.toNat - 0x2000) % 0x1000 := by
  unfold mirrorVram
  rw [nametableOffset h1 h2]
  generalize hi : (a.toNat - 0x2000) % 0x1000 = i
  have hlt : i < 0x1000 := by omega
  dsimp only
  have h4 : i / 0x400 = 0 ∨ i / 0x400 = 1 ∨ i / 0x400 = 2 ∨ i / 0x400 = 3 := by omega
  rcases h4 with h | h | h | h <;> cases m <;> simp only [h] <;> omega

theorem mirrorVram_range (m : Mirroring) {a : Word} (h1 : 0x2000 ≤ a.toNat) (h2 : a.toNat ≤ 0x3EFF) :
    mirrorVram m a ≤ 0xFFF ∧ (m ≠ .fourScreen → mirrorVram m a < 0x800) := by
  rw [mirrorVram_eq m h1 h2]
  cases m <;> simp only [ne_eq, not_true_eq_false, false_implies, reduceCtorEq, not_false_eq_true, true_implies,
    and_true] <;> omega

theorem paletteIndex_eq (a : Word) :
    paletteIndex a = if 16 ≤ a.toNat % 32 ∧ a.toNat % 32 % 4 = 0 then a.toNat % 32 - 16 else a.toNat % 32 := by
  have h : (a &&& 0x1F#16).toNat = a.toNat % 32 := by
    rw [BitVec.toNat_and]; exact Nat.and_two_pow_sub_one_eq_mod _ 5
  unfold paletteIndex
  rw [h]
  have : a.toNat % 32 < 32 := Nat.mod_lt _ (by decide)
  generalize a.toNat % 32 = i at *
  by_cases h : 16 ≤ i ∧ i % 4 = 0
  · rw [if_pos h, if_pos (by omega)]
  · rw [if_neg h, if_neg (by omega)]

theorem paletteIndex_lt (a : Word) : paletteIndex a < Params.paletteSize := by
  rw [paletteIndex_eq]
  have : a.toNat % 32 < 32 := Nat.mod_lt _ (by decide)
  simp only [Params.paletteSize]; split <;> omega

/-- The cell of an address that is not character ROM. -/
theorem ppuCell_cases (m : Mirroring) (a : Word) :
    (a.toNat ≤ 0x1FFF ∧ ppuCell m a = .chr a) ∨
    (0x2000 ≤ a.toNat ∧ a.toNat ≤ 0x3EFF ∧ ppuCell m a = .vram (mirrorVram m a)) ∨
    (0x3F00 ≤ a.toNat ∧ ppuCell m a = .palette (paletteIndex a)) := by
  unfold ppuCell
  by_cases h1 : a.toNat ≤ 0x1FFF
  · simp [h1]
  · by_cases h2 : a.toNat ≤ 0x3EFF
    · simp [h1, h2]; omega
    · simp [h1, h2]; omega

/-- What a bus read can do to the PPU: nothing, a Status read, or a data read (50_ppu.md R271). -/
def ReadEffect (q r : Ppu) : Prop :=
  r = q ∨ r = statusReadEffect q ∨ ∃ b, r = { vramIncrement q with readBuffer := b }

theorem portRead_cases (port : Nat) (s : State) :
    (∃ v q, portRead port s = .ok v (s.setPpu q) ∧ ReadEffect s.ppu q) ∨
    (∃ i, portRead port s = .stop ((s.setPpu (vramIncrement s.ppu)).setRun (.vramRange i)) ∧
      s.cart.mirroring = .fourScreen ∧ 0x800 ≤ i ∧ i ≤ 0xFFF) := by
  unfold portRead
  split
  · exact .inl ⟨_, _, rfl, .inr (.inl rfl)⟩
  · exact .inl ⟨_, s.ppu, rfl, .inl rfl⟩
  · unfold dataRead
    obtain ⟨h, e⟩ | ⟨h1, h2, e⟩ | ⟨h, e⟩ := ppuCell_cases s.cart.mirroring s.ppu.addr
    · rw [e]; exact .inl ⟨_, _, rfl, .inr (.inr ⟨_, rfl⟩)⟩
    · rw [e]; simp only []
      have hr := mirrorVram_range s.cart.mirroring h1 h2
      split
      · exact .inl ⟨_, _, rfl, .inr (.inr ⟨_, rfl⟩)⟩
      · next hge =>
        refine .inr ⟨_, rfl, ?_, ?_, hr.1⟩
        · by_contra hm; exact hge (hr.2 hm)
        · simp only [Params.vramSize] at hge; omega
    · rw [e]; exact .inl ⟨_, _, rfl, .inr (.inr ⟨s.ppu.readBuffer, rfl⟩)⟩
  · exact .inl ⟨_, s.ppu, rfl, .inl rfl⟩

/-- A bus read changes the PPU alone, by a read effect, or stops on a nametable index under FourScreen. -/
theorem busRead_cases (a : Word) (s : State) :
    (∃ v q, busRead a s = .ok v (s.setPpu q) ∧ ReadEffect s.ppu q) ∨
    (∃ i, busRead a s = .stop ((s.setPpu (vramIncrement s.ppu)).setRun (.vramRange i)) ∧
      s.cart.mirroring = .fourScreen ∧ 0x800 ≤ i ∧ i ≤ 0xFFF) := by
  unfold busRead
  split
  · exact .inl ⟨_, s.ppu, rfl, .inl rfl⟩
  · split
    · exact portRead_cases _ s
    · split <;> exact .inl ⟨_, s.ppu, rfl, .inl rfl⟩

/-- Without FourScreen no bus read stops. -/
theorem busRead_total (a : Word) (s : State) (h : s.cart.mirroring ≠ .fourScreen) :
    ∃ v q, busRead a s = .ok v (s.setPpu q) := by
  obtain ⟨v, q, e, _⟩ | ⟨_, _, h', _⟩ := busRead_cases a s
  · exact ⟨v, q, e⟩
  · exact absurd h' h

/-- What a port write that goes on can do: its port's register effect, a store of the data port, or the rejection of a
store to character ROM (R272, R283). -/
theorem portWrite_cases (port : Nat) (v : Byte) (s : State) :
    (port = 0 ∧ portWrite port v s = .ok () (s.setPpu (ctrlWrite v s.ppu))) ∨
    (port = 1 ∧ portWrite port v s = .ok () (s.setPpu (maskWrite v s.ppu))) ∨
    (port = 3 ∧ portWrite port v s = .ok () (s.setPpu (oamAddrWrite v s.ppu))) ∨
    (port = 4 ∧ portWrite port v s = .ok () (s.setPpu (oamDataWrite v s.ppu))) ∨
    (port = 5 ∧ portWrite port v s = .ok () (s.setPpu (scrollWrite v s.ppu))) ∨
    (port = 6 ∧ portWrite port v s = .ok () (s.setPpu (addrWrite v s.ppu))) ∨
    (port = 7 ∧ portWrite port v s = dataWrite v s) ∨
    ((port = 2 ∨ 8 ≤ port) ∧ portWrite port v s = .ok () s) := by
  match port with
  | 0 => simp [portWrite, State.updPpu]
  | 1 => simp [portWrite, State.updPpu]
  | 2 => simp [portWrite]
  | 3 => simp [portWrite, State.updPpu]
  | 4 => simp [portWrite, State.updPpu]
  | 5 => simp [portWrite, State.updPpu]
  | 6 => simp [portWrite, State.updPpu]
  | 7 => simp [portWrite]
  | n + 8 => simp [portWrite]

theorem dataWrite_cases (v : Byte) (s : State) :
    (s.ppu.addr.toNat ≤ 0x1FFF ∧
      dataWrite v s = .ok () ((rejectWrite .chr s.ppu.addr v s).setPpu (vramIncrement s.ppu))) ∨
    (∃ i, ppuCell s.cart.mirroring s.ppu.addr = .vram i ∧ i < 0x800 ∧
      dataWrite v s = .ok () (s.setPpu (vramIncrement { s.ppu with vram := s.ppu.vram.write i v }))) ∨
    (∃ i, ppuCell s.cart.mirroring s.ppu.addr = .palette i ∧ i < 32 ∧
      dataWrite v s = .ok () (s.setPpu (vramIncrement { s.ppu with palette := s.ppu.palette.write i v }))) ∨
    (∃ i, dataWrite v s = .stop (s.setRun (.vramRange i)) ∧ s.cart.mirroring = .fourScreen ∧ 0x800 ≤ i ∧ i ≤ 0xFFF) := by
  unfold dataWrite
  obtain ⟨h, e⟩ | ⟨h1, h2, e⟩ | ⟨h, e⟩ := ppuCell_cases s.cart.mirroring s.ppu.addr
  · rw [e]; exact .inl ⟨h, rfl⟩
  · rw [e]; simp only []
    have hr := mirrorVram_range s.cart.mirroring h1 h2
    split
    · next hlt => exact .inr (.inl ⟨_, rfl, hlt, rfl⟩)
    · next hge =>
      refine .inr (.inr (.inr ⟨_, rfl, ?_, ?_, hr.1⟩))
      · by_contra hm; exact hge (hr.2 hm)
      · simp only [Params.vramSize] at hge; omega
  · rw [e]; exact .inr (.inr (.inl ⟨_, rfl, paletteIndex_lt _, rfl⟩))

/-- What a bus write can do (20_memory.md R52). -/
theorem busWrite_cases (a : Word) (v : Byte) (s : State) :
    (a.toNat ≤ 0x1FFF ∧ busWrite a v s = .ok () (s.setRam (s.ram.write (ramIndex a) v))) ∨
    (0x2000 ≤ a.toNat ∧ a.toNat ≤ 0x3FFF ∧ busWrite a v s = portWrite (portOf a) v s) ∨
    (0x4000 ≤ a.toNat ∧ a.toNat < 0x8000 ∧ busWrite a v s = .ok () s) ∨
    (0x8000 ≤ a.toNat ∧ busWrite a v s = .ok () (rejectWrite .prg a v s)) := by
  unfold busWrite
  by_cases h1 : a.toNat ≤ 0x1FFF
  · simp [h1]
  · by_cases h2 : a.toNat ≤ 0x3FFF
    · simp [h1, h2]; omega
    · by_cases h3 : 0x8000 ≤ a.toNat
      · simp [h1, h2, h3]
      · simp [h1, h2, h3]; omega

theorem portWrite_total (port : Nat) (v : Byte) (s : State) (h : s.cart.mirroring ≠ .fourScreen) :
    ∃ t, portWrite port v s = .ok () t := by
  obtain ⟨_, e⟩ | ⟨_, e⟩ | ⟨_, e⟩ | ⟨_, e⟩ | ⟨_, e⟩ | ⟨_, e⟩ | ⟨_, e⟩ | ⟨_, e⟩ := portWrite_cases port v s
  iterate 6 exact ⟨_, e⟩
  · obtain ⟨_, d⟩ | ⟨_, _, _, d⟩ | ⟨_, _, _, d⟩ | ⟨_, _, h', _⟩ := dataWrite_cases v s
    iterate 3 exact ⟨_, e.trans d⟩
    exact absurd h' h
  · exact ⟨_, e⟩

/-- Without FourScreen no bus write stops. -/
theorem busWrite_total (a : Word) (v : Byte) (s : State) (h : s.cart.mirroring ≠ .fourScreen) :
    ∃ t, busWrite a v s = .ok () t := by
  obtain ⟨_, e⟩ | ⟨_, _, e⟩ | ⟨_, _, e⟩ | ⟨_, e⟩ := busWrite_cases a v s
  · exact ⟨_, e⟩
  · obtain ⟨t, ht⟩ := portWrite_total (portOf a) v s h; exact ⟨t, e.trans ht⟩
  · exact ⟨_, e⟩
  · exact ⟨_, e⟩

/-- The port an address of the window reaches is its low three bits (R54). -/
theorem portOf_eq {a : Word} (h1 : 0x2000 ≤ a.toNat) (h2 : a.toNat ≤ 0x3FFF) : portOf a = a.toNat % 8 := by
  have hm : (a &&& 0x2007#16).toNat % 2 ^ 3 = a.toNat % 2 ^ 3 := by
    rw [BitVec.toNat_and, Nat.and_mod_two_pow]
    exact (Nat.and_two_pow_sub_one_eq_mod _ 3).trans (Nat.mod_mod _ _)
  have hd : (a &&& 0x2007#16).toNat / 2 ^ 3 = 1024 := by
    rw [BitVec.toNat_and, Nat.and_div_two_pow]
    have hb : a.toNat / 2 ^ 3 &&& 1024 = 1024 := by
      apply Nat.eq_of_testBit_eq
      intro i
      by_cases hi : i = 10
      · subst hi
        have : a.toNat / 2 ^ 3 / 2 ^ 10 = 1 := by omega
        rw [Nat.testBit_and]
        simp only [Nat.testBit, Nat.shiftRight_eq_div_pow, this]; rfl
      · have : Nat.testBit 1024 i = false := by
          rw [show (1024 : Nat) = 2 ^ 10 from rfl, Nat.testBit_two_pow_of_ne (Ne.symm hi)]
        simp [Nat.testBit_and, this]
    exact hb
  have e : (a &&& 0x2007#16).toNat = 0x2000 + a.toNat % 8 := by omega
  unfold portOf
  rw [BitVec.toNat_sub_of_le (by rw [BitVec.le_def, e]; simp), e]; simp

end Sys2Proof.Machine
end

