-- ==== Sys2Proof/Laws/Encode.lean ====
section
/-! SUPPORT. The descriptor of an instruction's opcode, and the length of an encoding. -/

namespace Sys2Proof

/-- The opcode table has the instruction's mnemonic and format at its opcode byte. -/
theorem optable_opcode (i : Instr) : ∃ c, optable i.opcode = some ⟨i.mnemonic, i.operand.format, c⟩ := by
  cases i <;> simp only [Instr.opcode] <;> exact ⟨_, rfl⟩

theorem encode_length (i : Instr) : (encode i).length = 1 + i.operand.operandBytes := by
  unfold encode; cases i.operand <;> rfl

end Sys2Proof
end

