-- ==== Sys2Proof/Laws/Exec.lean ====
section
/-! SUPPORT. `exec` by mnemonic and operand, and everything the three shapes of an instruction with an operand can do. -/

namespace Sys2Proof.Machine

/-- A shift's two kinds of form. -/
def shiftBy (core : ShiftCore) : Operand → State → Out
  | .acc, s => .next (shiftAcc core s)
  | o, s => shiftForm core o s

/-- A branch's one form; no branch has another operand. -/
def branchIf (cond : Bool) : Operand → State → Out
  | .rel d, s => branch cond d s
  | _, s => .next s

/-- The meaning of a mnemonic with an operand, one shared operation for each mnemonic (30_encoding.md R113). -/
def execAs : Mnemonic → Operand → State → Out
  | .lda, o, s => ldaForm o s
  | .ldx, o, s => ldxForm o s
  | .ldy, o, s => ldyForm o s
  | .sta, o, s => staForm o s
  | .stx, o, s => stxForm o s
  | .sty, o, s => styForm o s
  | .tax, _, s => execTax s
  | .tay, _, s => execTay s
  | .txa, _, s => execTxa s
  | .tya, _, s => execTya s
  | .tsx, _, s => execTsx s
  | .txs, _, s => execTxs s
  | .adc, o, s => adcForm o s
  | .sbc, o, s => sbcForm o s
  | .and, o, s => andForm o s
  | .ora, o, s => oraForm o s
  | .eor, o, s => eorForm o s
  | .cmp, o, s => cmpForm o s
  | .cpx, o, s => cpxForm o s
  | .cpy, o, s => cpyForm o s
  | .bit, o, s => bitForm o s
  | .inc, o, s => incForm o s
  | .dec, o, s => decForm o s
  | .inx, _, s => execInx s
  | .iny, _, s => execIny s
  | .dex, _, s => execDex s
  | .dey, _, s => execDey s
  | .asl, o, s => shiftBy aslCore o s
  | .lsr, o, s => shiftBy lsrCore o s
  | .rol, o, s => shiftBy rolCore o s
  | .ror, o, s => shiftBy rorCore o s
  | .jmp, o, s => jmpForm o s
  | .jsr, .abs a, s => execJsr a s
  | .jsr, _, s => .next s
  | .rts, _, s => execRts s
  | .rti, _, s => execRti s
  | .bcc, o, s => branchIf (!flag s.p .c) o s
  | .bcs, o, s => branchIf (flag s.p .c) o s
  | .beq, o, s => branchIf (flag s.p .z) o s
  | .bne, o, s => branchIf (!flag s.p .z) o s
  | .bmi, o, s => branchIf (flag s.p .n) o s
  | .bpl, o, s => branchIf (!flag s.p .n) o s
  | .bvc, o, s => branchIf (!flag s.p .v) o s
  | .bvs, o, s => branchIf (flag s.p .v) o s
  | .brk, _, s => execBrk s
  | .nop, .imp, s => .next s
  | .nop, o, s => nopForm o s
  | .pha, _, s => execPha s
  | .pla, _, s => execPla s
  | .php, _, s => execPhp s
  | .plp, _, s => execPlp s
  | .clc, _, s => execClc s
  | .sec, _, s => execSec s
  | .cli, _, s => execCli s
  | .sei, _, s => execSei s
  | .cld, _, s => execCld s
  | .sed, _, s => execSed s
  | .clv, _, s => execClv s
  | .slo, o, s => sloForm o s
  | .rla, o, s => rlaForm o s
  | .sre, o, s => sreForm o s
  | .rra, o, s => rraForm o s
  | .sax, o, s => saxForm o s
  | .lax, o, s => laxForm o s
  | .dcp, o, s => dcpForm o s
  | .isb, o, s => isbForm o s
  | .anc, o, s => ancForm o s
  | .alr, o, s => alrForm o s
  | .arr, o, s => arrForm o s
  | .axs, o, s => axsForm o s

/-- Every instruction is its mnemonic's shared operation at its operand. -/
theorem exec_eq (i : Instr) (s : State) : exec i s = execAs i.mnemonic i.operand s := by
  cases i <;> rfl

/-- The opcode map has every instruction's mnemonic in its operand's format. -/
theorem format_mem (i : Instr) : i.operand.format ∈ i.mnemonic.formats := by
  cases i <;> simp [Instr.operand, Instr.mnemonic, Operand.format, Mnemonic.formats]

/-- The operand has an effective address (30_encoding.md R94 to R103), and it is not that of the Indirect mode. -/
def direct (o : Operand) : Prop := o.format ∉ [Format.imp, .acc, .rel, .ind]

/-- The effective address of a mode other than Indirect, from the RAM and the registers. -/
def effective (o : Operand) (s : State) : Word :=
  match o with
  | .imm _ => s.pc
  | .zp a => zext a
  | .zpx a => zext (a + s.x)
  | .zpy a => zext (a + s.y)
  | .abs a => a
  | .abx a => a + zext s.x
  | .aby a => a + zext s.y
  | .izx a => cat (s.ram.read (a + s.x + 1#8).toNat) (s.ram.read (a + s.x).toNat)
  | .izy a => cat (s.ram.read (a + 1#8).toNat) (s.ram.read a.toNat) + zext s.y
  | _ => 0#16

/-- Resolving a mode other than Indirect has no side effect and never stops. -/
theorem resolve_direct {o : Operand} (s : State) (h : direct o) : resolve o s = .ok (effective o s) s := by
  cases o <;> simp_all [resolve, effective, direct, Operand.format, zeroPagePointer, busRead_zext]

theorem readOperand_direct {o : Operand} (s : State) (h : direct o) :
    readOperand o s = match o with
      | .imm v => .ok v s
      | o => busRead (effective o s) s := by
  cases o with
  | imm v => rfl
  | _ => rw [readOperand, resolve_direct s h, Access.ok_andThen]; simp

/-- The operand byte of a mode other than Immediate: resolve, then one bus read. -/
theorem readOperand_eq {o : Operand} (s : State) (hi : o.format ≠ .imm) :
    readOperand o s = (resolve o s).andThen busRead := by
  cases o <;> first | rfl | exact absurd rfl hi

/-- The operand byte of a mode other than Indirect and Immediate is one bus read of the effective address. -/
theorem readOperand_eq_busRead {o : Operand} (s : State) (h : direct o) (hi : o.format ≠ .imm) :
    readOperand o s = busRead (effective o s) s := by
  rw [readOperand_eq s hi, resolve_direct s h, Access.ok_andThen]

/-- The three shapes, as equations over the effective address. -/
theorem storeForm_direct {o : Operand} (value : State → Byte) (s : State) (h : direct o) :
    storeForm value o s = (busWrite (effective o s) (value s) s).advance o.operandBytes := by
  simp [storeForm, resolve_direct s h]

theorem readForm_eq (f : Byte → State → State) (o : Operand) (s : State) :
    readForm f o s = match readOperand o s with
      | .ok m u => .next ((f m u).setPc ((f m u).pc + BitVec.ofNat 16 o.operandBytes))
      | .stop u => .next u := by
  unfold readForm; cases readOperand o s <;> rfl

theorem modifyForm_direct {α : Type} {o : Operand} (core : Byte → State → Byte × α) (after : Byte → α → State → State)
    (s : State) (h : direct o) :
    modifyForm core after o s = match busRead (effective o s) s with
      | .stop u => .next u
      | .ok v u =>
        match busWrite (effective o s) (core v u).1 u with
        | .stop t => .next t
        | .ok _ t =>
          let r := after (core v u).1 (core v u).2 t
          .next (r.setPc (r.pc + BitVec.ofNat 16 o.operandBytes)) := by
  rw [modifyForm, resolve_direct s h, Access.ok_andThen]
  cases busRead (effective o s) s with
  | stop u => rfl
  | ok v u => simp only [Access.ok_andThen]; cases busWrite (effective o s) (core v u).1 u <;> rfl

/-- The mnemonics with an operand that has an effective address, apart from JMP. -/
theorem direct_of_format {i : Instr} {m : Mnemonic} (hm : i.mnemonic = m)
    (h : m.formats.all (fun f => f != .imp && f != .acc && f != .rel && f != .ind) = true) :
    direct i.operand := by
  have hf := format_mem i
  rw [hm] at hf
  have := List.all_eq_true.1 h _ hf
  simp_all [direct]

/-- Every instruction answers a next state. -/
theorem exec_next (i : Instr) (s : State) : ∃ t, exec i s = .next t := by
  have adv : ∀ (r : Access Unit) n, ∃ t, r.advance n = .next t := by rintro (_ | _) n <;> exact ⟨_, rfl⟩
  have jmp : ∀ r : Access Word, ∃ t, r.jump = .next t := by rintro (_ | _) <;> exact ⟨_, rfl⟩
  have shf : ∀ core o, ∃ t, shiftBy core o s = .next t := by
    intro core o; unfold shiftBy; split
    · exact ⟨_, rfl⟩
    · exact adv _ _
  have brn : ∀ c o, ∃ t, branchIf c o s = .next t := by
    intro c o; unfold branchIf; split
    · unfold branch; split
      · exact jmp _
      · exact adv _ _
    · exact ⟨_, rfl⟩
  rw [exec_eq]
  cases i.mnemonic <;> first
    | exact ⟨_, rfl⟩
    | exact adv _ _
    | exact jmp _
    | exact shf _ _
    | exact brn _ _
    | (cases i.operand <;> first | exact ⟨_, rfl⟩ | exact jmp _ | exact adv _ _)

/-! ## Everything a shape can do -/

/-- A bus access of `s` that stopped: VramRange under FourScreen, the rest as it was but for the increment of a read. -/
def StoppedFrom (s t : State) : Prop :=
  ∃ i q, t = (s.setPpu q).setRun (.vramRange i) ∧ (q = s.ppu ∨ q = vramIncrement s.ppu) ∧
    s.cart.mirroring = .fourScreen ∧ 0x800 ≤ i ∧ i ≤ 0xFFF

/-- What a bus write of `v` to `ea` that goes on does. -/
inductive WriteEffect (ea : Word) (v : Byte) (s : State) : State → Prop where
  /-- RAM (R53). -/
  | ram (h : ea.toNat ≤ 0x1FFF) : WriteEffect ea v s (s.setRam (s.ram.write (ramIndex ea) v))
  /-- A port register (R272); OAM changes through port 4 alone. -/
  | port (q : Ppu) (h : 0x2000 ≤ ea.toNat ∧ ea.toNat ≤ 0x3FFF)
      (hq : q = ctrlWrite v s.ppu ∨ q = maskWrite v s.ppu ∨ q = oamAddrWrite v s.ppu ∨ q = scrollWrite v s.ppu ∨
        q = addrWrite v s.ppu) : WriteEffect ea v s (s.setPpu q)
  /-- Port 4 (R278). -/
  | oam (h : 0x2000 ≤ ea.toNat ∧ ea.toNat ≤ 0x3FFF ∧ ea.toNat % 8 = 4) :
      WriteEffect ea v s (s.setPpu (oamDataWrite v s.ppu))
  /-- Port 7, nametable (R283). -/
  | vram (i : Nat) (h : 0x2000 ≤ ea.toNat ∧ ea.toNat ≤ 0x3FFF ∧ ea.toNat % 8 = 7)
      (hc : ppuCell s.cart.mirroring s.ppu.addr = .vram i) (hi : i < 0x800) :
      WriteEffect ea v s (s.setPpu (vramIncrement { s.ppu with vram := s.ppu.vram.write i v }))
  /-- Port 7, palette (R283). -/
  | palette (i : Nat) (h : 0x2000 ≤ ea.toNat ∧ ea.toNat ≤ 0x3FFF ∧ ea.toNat % 8 = 7)
      (hc : ppuCell s.cart.mirroring s.ppu.addr = .palette i) (hi : i < 32) :
      WriteEffect ea v s (s.setPpu (vramIncrement { s.ppu with palette := s.ppu.palette.write i v }))
  /-- Port 7, character ROM: rejected (R283, R57). -/
  | chr (h : 0x2000 ≤ ea.toNat ∧ ea.toNat ≤ 0x3FFF ∧ ea.toNat % 8 = 7) :
      WriteEffect ea v s ((rejectWrite .chr s.ppu.addr v s).setPpu (vramIncrement s.ppu))
  /-- Port 2 (R288) and the unmapped range (R56): nothing. -/
  | none (h : 0x2000 ≤ ea.toNat ∧ ea.toNat < 0x8000) : WriteEffect ea v s s
  /-- Program ROM: rejected (R57). -/
  | rom (h : 0x8000 ≤ ea.toNat) : WriteEffect ea v s (rejectWrite .prg ea v s)

/-- Every bus write has one of those effects or stops. -/
theorem busWrite_effect (ea : Word) (v : Byte) (s : State) :
    (∃ t, busWrite ea v s = .ok () t ∧ WriteEffect ea v s t) ∨ ∃ t, busWrite ea v s = .stop t ∧ StoppedFrom s t := by
  obtain ⟨h, e⟩ | ⟨h1, h2, e⟩ | ⟨h1, h2, e⟩ | ⟨h, e⟩ := busWrite_cases ea v s
  · exact .inl ⟨_, e, .ram h⟩
  · have hp := portOf_eq h1 h2
    obtain ⟨p, d⟩ | ⟨p, d⟩ | ⟨p, d⟩ | ⟨p, d⟩ | ⟨p, d⟩ | ⟨p, d⟩ | ⟨p, d⟩ | ⟨p, d⟩ := portWrite_cases (portOf ea) v s
    · exact .inl ⟨_, e.trans d, .port _ ⟨h1, h2⟩ (by simp)⟩
    · exact .inl ⟨_, e.trans d, .port _ ⟨h1, h2⟩ (by simp)⟩
    · exact .inl ⟨_, e.trans d, .port _ ⟨h1, h2⟩ (by simp)⟩
    · exact .inl ⟨_, e.trans d, .oam ⟨h1, h2, by omega⟩⟩
    · exact .inl ⟨_, e.trans d, .port _ ⟨h1, h2⟩ (by simp)⟩
    · exact .inl ⟨_, e.trans d, .port _ ⟨h1, h2⟩ (by simp)⟩
    · have e := e.trans d
      have h7 : 0x2000 ≤ ea.toNat ∧ ea.toNat ≤ 0x3FFF ∧ ea.toNat % 8 = 7 := ⟨h1, h2, by omega⟩
      obtain ⟨_, d⟩ | ⟨i, c, hi, d⟩ | ⟨i, c, hi, d⟩ | ⟨i, d, hm, hl, hu⟩ := dataWrite_cases v s
      · exact .inl ⟨_, e.trans d, .chr h7⟩
      · exact .inl ⟨_, e.trans d, .vram i h7 c hi⟩
      · exact .inl ⟨_, e.trans d, .palette i h7 c hi⟩
      · exact .inr ⟨_, e.trans d, i, s.ppu, rfl, .inl rfl, hm, hl, hu⟩
    · exact .inl ⟨_, e.trans d, .none ⟨h1, by omega⟩⟩
  · exact .inl ⟨_, e, .none ⟨by omega, h2⟩⟩
  · exact .inl ⟨_, e, .rom h⟩

theorem busRead_stop {a : Word} {s t : State} (h : busRead a s = .stop t) : StoppedFrom s t := by
  obtain ⟨v, q, e, _⟩ | ⟨i, e, hm, hl, hu⟩ := busRead_cases a s
  · rw [e] at h; cases h
  · rw [e] at h; cases h; exact ⟨i, _, rfl, .inr rfl, hm, hl, hu⟩

theorem busRead_ok {a : Word} {s t : State} {v : Byte} (h : busRead a s = .ok v t) :
    ∃ q, t = s.setPpu q ∧ ReadEffect s.ppu q := by
  obtain ⟨v', q, e, hq⟩ | ⟨_, e, _⟩ := busRead_cases a s
  · rw [e] at h; cases h; exact ⟨q, rfl, hq⟩
  · rw [e] at h; cases h

/-- A reading instruction: one read, then its registers, then `PC`; or the read stopped. -/
theorem readForm_cases {f : Byte → State → State} {o : Operand} {s t : State} (hd : direct o)
    (h : readForm f o s = .next t) :
    (∃ m q, ReadEffect s.ppu q ∧ t = (f m (s.setPpu q)).setPc ((f m (s.setPpu q)).pc + BitVec.ofNat 16 o.operandBytes)) ∨
    StoppedFrom s t := by
  rw [readForm_eq] at h
  split at h
  · next m u hr =>
    cases h
    rw [readOperand_direct s hd] at hr
    split at hr
    · cases hr; exact .inl ⟨_, s.ppu, .inl rfl, rfl⟩
    · obtain ⟨q, rfl, hq⟩ := busRead_ok hr; exact .inl ⟨m, q, hq, rfl⟩
  · next u hr =>
    cases h
    rw [readOperand_direct s hd] at hr
    split at hr
    · cases hr
    · exact .inr (busRead_stop hr)

/-- A storing instruction: one write, then `PC`; or the write stopped. -/
theorem storeForm_cases {value : State → Byte} {o : Operand} {s t : State} (hd : direct o)
    (h : storeForm value o s = .next t) :
    (∃ u, WriteEffect (effective o s) (value s) s u ∧ t = u.setPc (u.pc + BitVec.ofNat 16 o.operandBytes)) ∨
    StoppedFrom s t := by
  rw [storeForm_direct value s hd] at h
  obtain ⟨u, e, hw⟩ | ⟨u, e, hs⟩ := busWrite_effect (effective o s) (value s) s
  · rw [e] at h; cases h; exact .inl ⟨u, hw, rfl⟩
  · rw [e] at h; cases h; exact .inr hs

/-- A read-modify-write instruction: one read, one write, its registers, then `PC`; or one of the two stopped. -/
theorem modifyForm_cases {α : Type} {core : Byte → State → Byte × α} {after : Byte → α → State → State} {o : Operand}
    {s t : State} (hd : direct o) (h : modifyForm core after o s = .next t) :
    (∃ v q w, busRead (effective o s) s = .ok v (s.setPpu q) ∧ ReadEffect s.ppu q ∧
      WriteEffect (effective o s) (core v (s.setPpu q)).1 (s.setPpu q) w ∧
      t = (after (core v (s.setPpu q)).1 (core v (s.setPpu q)).2 w).setPc
        ((after (core v (s.setPpu q)).1 (core v (s.setPpu q)).2 w).pc + BitVec.ofNat 16 o.operandBytes)) ∨
    StoppedFrom s t ∨
    ∃ v q, busRead (effective o s) s = .ok v (s.setPpu q) ∧ ReadEffect s.ppu q ∧ StoppedFrom (s.setPpu q) t := by
  rw [modifyForm_direct core after s hd] at h
  cases hb : busRead (effective o s) s with
  | stop u => rw [hb] at h; cases h; exact .inr (.inl (busRead_stop hb))
  | ok v u =>
    rw [hb] at h
    obtain ⟨q, rfl, hq⟩ := busRead_ok hb
    simp only [] at h
    obtain ⟨w, e, hw⟩ | ⟨w, e, hs⟩ := busWrite_effect (effective o s) (core v (s.setPpu q)).1 (s.setPpu q)
    · rw [e] at h; cases h; exact .inl ⟨v, q, w, rfl, hq, hw, rfl⟩
    · rw [e] at h; cases h; exact .inr (.inr ⟨v, q, rfl, hq, hs⟩)

/-- The indirect jump: two reads, then `PC`; or one of them stopped. -/
theorem jmpInd_cases {a : Word} {s t : State} (h : jmpForm (.ind a) s = .next t) :
    (∃ q r w, ReadEffect s.ppu q ∧ ReadEffect q r ∧ t = (s.setPpu r).setPc w) ∨
    StoppedFrom s t ∨ ∃ q, ReadEffect s.ppu q ∧ StoppedFrom (s.setPpu q) t := by
  simp only [jmpForm, resolve, indirectTarget] at h
  cases hb : busRead a s with
  | stop u => rw [hb] at h; cases h; exact .inr (.inl (busRead_stop hb))
  | ok l u =>
    rw [hb] at h
    obtain ⟨q, rfl, hq⟩ := busRead_ok hb
    simp only [Access.ok_andThen] at h
    cases hc : busRead (if lo a = 0xFF#8 then a &&& 0xFF00#16 else a + 1#16) (s.setPpu q) with
    | stop u => rw [hc] at h; cases h; exact .inr (.inr ⟨q, hq, busRead_stop hc⟩)
    | ok l u =>
      rw [hc] at h
      obtain ⟨r, rfl, hr⟩ := busRead_ok hc
      cases h; exact .inl ⟨q, r, _, hq, hr, rfl⟩

/-- `t` is `u` but for the CPU's registers. -/
def RegistersOnly (u t : State) : Prop :=
  t.ram = u.ram ∧ t.ppu = u.ppu ∧ t.report = u.report ∧ t.run = u.run ∧ t.cart = u.cart ∧
  t.frameComplete = u.frameComplete

/-- What an instruction can do to all but the CPU's registers. -/
inductive ExecEffect (m : Mnemonic) (o : Operand) (s t : State) : Prop where
  /-- At most two reads. -/
  | reads (q r : Ppu) (hq : ReadEffect s.ppu q) (hr : ReadEffect q r) (ht : RegistersOnly (s.setPpu r) t)
  /-- BRK (R205). -/
  | halt (hm : m = .brk) (ht : t = s.setRun .haltedBrk)
  /-- PHA and PHP. -/
  | push (hm : m ∈ [Mnemonic.pha, .php]) (v : Byte)
      (ht : RegistersOnly (s.setRam (s.ram.write (0x100 + s.sp.toNat) v)) t)
  /-- JSR. -/
  | push2 (hm : m = .jsr) (v w : Byte)
      (ht : RegistersOnly (s.setRam ((s.ram.write (0x100 + s.sp.toNat) v).write (0x100 + (s.sp - 1#8).toNat) w)) t)
  /-- A store. -/
  | store (hm : m ∈ [Mnemonic.sta, .stx, .sty, .sax]) (hd : direct o) (v : Byte) (u : State)
      (hu : WriteEffect (effective o s) v s u) (ht : RegistersOnly u t)
  /-- A read-modify-write. -/
  | modify (hm : m ∈ [Mnemonic.inc, .dec, .asl, .lsr, .rol, .ror, .slo, .rla, .sre, .rra, .dcp, .isb]) (hd : direct o)
      (b v : Byte) (q : Ppu) (u : State) (hb : busRead (effective o s) s = .ok b (s.setPpu q))
      (hq : ReadEffect s.ppu q) (hu : WriteEffect (effective o s) v (s.setPpu q) u) (ht : RegistersOnly u t)
  /-- An access stopped, the first or the second. -/
  | stop (q : Ppu) (hq : ReadEffect s.ppu q) (ht : StoppedFrom (s.setPpu q) t)

theorem ReadEffect.refl (q : Ppu) : ReadEffect q q := .inl rfl

/-- A register-only instruction. -/
theorem ExecEffect.registers {m : Mnemonic} {o : Operand} {s t : State} (h : RegistersOnly s t) :
    ExecEffect m o s t := .reads s.ppu s.ppu (.refl _) (.refl _) h

theorem ExecEffect.of_read {m : Mnemonic} {o : Operand} {s t : State} {f : Byte → State → State}
    (h : readForm f o s = .next t) (hd : direct o) (hf : ∀ b u, RegistersOnly u (f b u)) : ExecEffect m o s t := by
  obtain ⟨b, q, hq, rfl⟩ | hs := readForm_cases hd h
  · exact .reads q q hq (.refl _) (hf b (s.setPpu q))
  · exact .stop s.ppu (.refl _) hs

theorem ExecEffect.of_store {m : Mnemonic} {o : Operand} {s t : State} {value : State → Byte}
    (h : storeForm value o s = .next t) (hd : direct o) (hm : m ∈ [Mnemonic.sta, .stx, .sty, .sax]) :
    ExecEffect m o s t := by
  obtain ⟨u, hu, rfl⟩ | hs := storeForm_cases hd h
  · exact .store hm hd _ u hu ⟨rfl, rfl, rfl, rfl, rfl, rfl⟩
  · exact .stop s.ppu (.refl _) hs

theorem ExecEffect.of_modify {α : Type} {m : Mnemonic} {o : Operand} {s t : State} {core : Byte → State → Byte × α}
    {after : Byte → α → State → State} (h : modifyForm core after o s = .next t) (hd : direct o)
    (hm : m ∈ [Mnemonic.inc, .dec, .asl, .lsr, .rol, .ror, .slo, .rla, .sre, .rra, .dcp, .isb])
    (hf : ∀ b c u, RegistersOnly u (after b c u)) : ExecEffect m o s t := by
  obtain ⟨v, q, w, hb, hq, hw, rfl⟩ | hs | ⟨v, q, hb, hq, hs⟩ := modifyForm_cases hd h
  · exact .modify hm hd v _ q w hb hq hw (hf _ _ w)
  · exact .stop s.ppu (.refl _) hs
  · exact .stop q hq hs

theorem ExecEffect.of_shift {m : Mnemonic} {o : Operand} {s t : State} {core : ShiftCore}
    (h : shiftBy core o s = .next t) (hd : o = .acc ∨ direct o)
    (hm : m ∈ [Mnemonic.inc, .dec, .asl, .lsr, .rol, .ror, .slo, .rla, .sre, .rra, .dcp, .isb]) :
    ExecEffect m o s t := by
  unfold shiftBy at h
  split at h
  · cases h; exact .registers ⟨rfl, rfl, rfl, rfl, rfl, rfl⟩
  · next hne =>
    exact .of_modify h (hd.resolve_left fun e => hne e) hm fun _ _ _ => ⟨rfl, rfl, rfl, rfl, rfl, rfl⟩

theorem ExecEffect.of_branch {m : Mnemonic} {o : Operand} {s t : State} {c : Bool} (h : branchIf c o s = .next t) :
    ExecEffect m o s t := by
  unfold branchIf branch at h
  split at h
  · split at h <;> cases h <;> exact .registers ⟨rfl, rfl, rfl, rfl, rfl, rfl⟩
  · cases h; exact .registers ⟨rfl, rfl, rfl, rfl, rfl, rfl⟩

/-- The shifts' operands. -/
theorem acc_or_direct {i : Instr} {m : Mnemonic} (hm : i.mnemonic = m)
    (h : m.formats.all (fun f => f == .acc || (f != .imp && f != .rel && f != .ind)) = true) :
    i.operand = .acc ∨ direct i.operand := by
  have hf := format_mem i
  rw [hm] at hf
  have := List.all_eq_true.1 h _ hf
  revert this
  cases i.operand <;> simp [direct, Operand.format]

/-- Every instruction has one of those effects. -/
theorem exec_effect {i : Instr} {s t : State} (h : exec i s = .next t) : ExecEffect i.mnemonic i.operand s t := by
  rw [exec_eq] at h
  cases hm : i.mnemonic <;> rw [hm] at h <;> first
    | (cases h; exact .registers ⟨rfl, rfl, rfl, rfl, rfl, rfl⟩)
    | exact .of_read h (direct_of_format hm rfl) fun _ _ => ⟨rfl, rfl, rfl, rfl, rfl, rfl⟩
    | exact .of_store h (direct_of_format hm rfl) (by simp)
    | (simp only [execAs, incForm, decForm, sloForm, rlaForm, sreForm, rraForm, dcpForm, isbForm] at h
       exact .of_modify h (direct_of_format hm rfl) (by simp) fun _ _ _ => ⟨rfl, rfl, rfl, rfl, rfl, rfl⟩)
    | exact .of_shift h (acc_or_direct hm rfl) (by simp)
    | exact .of_branch h
    | (cases h; exact .halt rfl rfl)
    | skip
  case jmp =>
    have hf := format_mem i
    rw [hm] at hf
    revert h hf
    cases i.operand <;> simp only [Operand.format, Mnemonic.formats, List.mem_cons, List.not_mem_nil, reduceCtorEq,
      or_self, or_false, false_implies, implies_true] <;> intro h _
    · cases h; exact .registers ⟨rfl, rfl, rfl, rfl, rfl, rfl⟩
    · obtain ⟨q, r, w, hq, hr, rfl⟩ | hs | ⟨q, hq, hs⟩ := jmpInd_cases h
      · exact .reads q r hq hr ⟨rfl, rfl, rfl, rfl, rfl, rfl⟩
      · exact .stop s.ppu (.refl _) hs
      · exact .stop q hq hs
  case jsr =>
    revert h
    cases i.operand <;> intro h <;> first
      | (cases h; exact .registers ⟨rfl, rfl, rfl, rfl, rfl, rfl⟩)
      | (simp only [execAs, execJsr, push16_eq, Access.ok_andThen, Access.ok_jump, Host.Outcome.next.injEq] at h
         subst h; exact .push2 rfl _ _ ⟨rfl, rfl, rfl, rfl, rfl, rfl⟩)
  case rts =>
    simp only [execAs, execRts, pop16_eq, Access.ok_andThen, Access.ok_jump, Host.Outcome.next.injEq] at h
    subst h; exact .registers ⟨rfl, rfl, rfl, rfl, rfl, rfl⟩
  case rti =>
    simp only [execAs, execRti, returnFromNmi_eq, Access.ok_jump, Host.Outcome.next.injEq] at h
    subst h; exact .registers ⟨rfl, rfl, rfl, rfl, rfl, rfl⟩
  case nop =>
    have hf := format_mem i
    rw [hm] at hf
    revert h hf
    cases i.operand <;> intro h hf <;> first
      | (cases h; exact .registers ⟨rfl, rfl, rfl, rfl, rfl, rfl⟩)
      | (refine absurd hf ?_; simp [Operand.format, Mnemonic.formats]; done)
      | exact .of_read h (by simp [direct, Operand.format]) fun _ _ => ⟨rfl, rfl, rfl, rfl, rfl, rfl⟩
  case pha =>
    simp only [execAs, execPha, push8_eq, Access.ok_advance, Host.Outcome.next.injEq] at h
    subst h; exact .push (by simp) _ ⟨rfl, rfl, rfl, rfl, rfl, rfl⟩
  case pla =>
    simp only [execAs, execPla, pop8_eq, Access.ok_andThen, Access.ok_advance, Host.Outcome.next.injEq] at h
    subst h; exact .registers ⟨rfl, rfl, rfl, rfl, rfl, rfl⟩
  case php =>
    simp only [execAs, execPhp, push8_eq, Access.ok_advance, Host.Outcome.next.injEq] at h
    subst h; exact .push (by simp) _ ⟨rfl, rfl, rfl, rfl, rfl, rfl⟩
  case plp =>
    simp only [execAs, execPlp, pop8_eq, Access.ok_andThen, Access.ok_advance, Host.Outcome.next.injEq] at h
    subst h; exact .registers ⟨rfl, rfl, rfl, rfl, rfl, rfl⟩

end Sys2Proof.Machine
end

