-- ==== Sys2Proof/Laws/PerInstr.lean ====
section
/-! SUPPORT. Facts about every instruction as syntax, one lemma per constructor. -/

namespace Sys2Proof.Laws.TableRow

/-- The opcode table's row at the instruction's opcode byte has the instruction's mnemonic and format. -/
def Statement (i : Instr) : Prop :=
  (optable i.opcode).map (fun d => (d.mnemonic, d.format)) = some (i.mnemonic, i.operand.format)

/-- An instruction whose opcode, mnemonic and format are the ones given, as a row of the lists of R106 and R107. -/
theorem of_row (i : Instr) (op : Byte) (m : Mnemonic) (f : Format) (hop : i.opcode = op) (hm : i.mnemonic = m)
    (hf : i.operand.format = f) (h : (optable op).map (fun d => (d.mnemonic, d.format)) = some (m, f)) :
    Statement i := by
  unfold Statement; rw [hop, hm, hf, h]

theorem ldaImm (v : Byte) : Statement (.ldaImm v) :=
  of_row _ 0xA9#8 .lda .imm rfl rfl rfl rfl
theorem ldaZp (a : Byte) : Statement (.ldaZp a) :=
  of_row _ 0xA5#8 .lda .zp rfl rfl rfl rfl
theorem ldaZpx (a : Byte) : Statement (.ldaZpx a) :=
  of_row _ 0xB5#8 .lda .zpx rfl rfl rfl rfl
theorem ldaAbs (a : Word) : Statement (.ldaAbs a) :=
  of_row _ 0xAD#8 .lda .abs rfl rfl rfl rfl
theorem ldaAbx (a : Word) : Statement (.ldaAbx a) :=
  of_row _ 0xBD#8 .lda .abx rfl rfl rfl rfl
theorem ldaAby (a : Word) : Statement (.ldaAby a) :=
  of_row _ 0xB9#8 .lda .aby rfl rfl rfl rfl
theorem ldaIzx (a : Byte) : Statement (.ldaIzx a) :=
  of_row _ 0xA1#8 .lda .izx rfl rfl rfl rfl
theorem ldaIzy (a : Byte) : Statement (.ldaIzy a) :=
  of_row _ 0xB1#8 .lda .izy rfl rfl rfl rfl
theorem ldxImm (v : Byte) : Statement (.ldxImm v) :=
  of_row _ 0xA2#8 .ldx .imm rfl rfl rfl rfl
theorem ldxZp (a : Byte) : Statement (.ldxZp a) :=
  of_row _ 0xA6#8 .ldx .zp rfl rfl rfl rfl
theorem ldxZpy (a : Byte) : Statement (.ldxZpy a) :=
  of_row _ 0xB6#8 .ldx .zpy rfl rfl rfl rfl
theorem ldxAbs (a : Word) : Statement (.ldxAbs a) :=
  of_row _ 0xAE#8 .ldx .abs rfl rfl rfl rfl
theorem ldxAby (a : Word) : Statement (.ldxAby a) :=
  of_row _ 0xBE#8 .ldx .aby rfl rfl rfl rfl
theorem ldyImm (v : Byte) : Statement (.ldyImm v) :=
  of_row _ 0xA0#8 .ldy .imm rfl rfl rfl rfl
theorem ldyZp (a : Byte) : Statement (.ldyZp a) :=
  of_row _ 0xA4#8 .ldy .zp rfl rfl rfl rfl
theorem ldyZpx (a : Byte) : Statement (.ldyZpx a) :=
  of_row _ 0xB4#8 .ldy .zpx rfl rfl rfl rfl
theorem ldyAbs (a : Word) : Statement (.ldyAbs a) :=
  of_row _ 0xAC#8 .ldy .abs rfl rfl rfl rfl
theorem ldyAbx (a : Word) : Statement (.ldyAbx a) :=
  of_row _ 0xBC#8 .ldy .abx rfl rfl rfl rfl
theorem staZp (a : Byte) : Statement (.staZp a) :=
  of_row _ 0x85#8 .sta .zp rfl rfl rfl rfl
theorem staZpx (a : Byte) : Statement (.staZpx a) :=
  of_row _ 0x95#8 .sta .zpx rfl rfl rfl rfl
theorem staAbs (a : Word) : Statement (.staAbs a) :=
  of_row _ 0x8D#8 .sta .abs rfl rfl rfl rfl
theorem staAbx (a : Word) : Statement (.staAbx a) :=
  of_row _ 0x9D#8 .sta .abx rfl rfl rfl rfl
theorem staAby (a : Word) : Statement (.staAby a) :=
  of_row _ 0x99#8 .sta .aby rfl rfl rfl rfl
theorem staIzx (a : Byte) : Statement (.staIzx a) :=
  of_row _ 0x81#8 .sta .izx rfl rfl rfl rfl
theorem staIzy (a : Byte) : Statement (.staIzy a) :=
  of_row _ 0x91#8 .sta .izy rfl rfl rfl rfl
theorem stxZp (a : Byte) : Statement (.stxZp a) :=
  of_row _ 0x86#8 .stx .zp rfl rfl rfl rfl
theorem stxZpy (a : Byte) : Statement (.stxZpy a) :=
  of_row _ 0x96#8 .stx .zpy rfl rfl rfl rfl
theorem stxAbs (a : Word) : Statement (.stxAbs a) :=
  of_row _ 0x8E#8 .stx .abs rfl rfl rfl rfl
theorem styZp (a : Byte) : Statement (.styZp a) :=
  of_row _ 0x84#8 .sty .zp rfl rfl rfl rfl
theorem styZpx (a : Byte) : Statement (.styZpx a) :=
  of_row _ 0x94#8 .sty .zpx rfl rfl rfl rfl
theorem styAbs (a : Word) : Statement (.styAbs a) :=
  of_row _ 0x8C#8 .sty .abs rfl rfl rfl rfl
theorem tax : Statement .tax :=
  of_row _ 0xAA#8 .tax .imp rfl rfl rfl rfl
theorem tay : Statement .tay :=
  of_row _ 0xA8#8 .tay .imp rfl rfl rfl rfl
theorem txa : Statement .txa :=
  of_row _ 0x8A#8 .txa .imp rfl rfl rfl rfl
theorem tya : Statement .tya :=
  of_row _ 0x98#8 .tya .imp rfl rfl rfl rfl
theorem tsx : Statement .tsx :=
  of_row _ 0xBA#8 .tsx .imp rfl rfl rfl rfl
theorem txs : Statement .txs :=
  of_row _ 0x9A#8 .txs .imp rfl rfl rfl rfl
theorem adcImm (v : Byte) : Statement (.adcImm v) :=
  of_row _ 0x69#8 .adc .imm rfl rfl rfl rfl
theorem adcZp (a : Byte) : Statement (.adcZp a) :=
  of_row _ 0x65#8 .adc .zp rfl rfl rfl rfl
theorem adcZpx (a : Byte) : Statement (.adcZpx a) :=
  of_row _ 0x75#8 .adc .zpx rfl rfl rfl rfl
theorem adcAbs (a : Word) : Statement (.adcAbs a) :=
  of_row _ 0x6D#8 .adc .abs rfl rfl rfl rfl
theorem adcAbx (a : Word) : Statement (.adcAbx a) :=
  of_row _ 0x7D#8 .adc .abx rfl rfl rfl rfl
theorem adcAby (a : Word) : Statement (.adcAby a) :=
  of_row _ 0x79#8 .adc .aby rfl rfl rfl rfl
theorem adcIzx (a : Byte) : Statement (.adcIzx a) :=
  of_row _ 0x61#8 .adc .izx rfl rfl rfl rfl
theorem adcIzy (a : Byte) : Statement (.adcIzy a) :=
  of_row _ 0x71#8 .adc .izy rfl rfl rfl rfl
theorem sbcImm (v : Byte) : Statement (.sbcImm v) :=
  of_row _ 0xE9#8 .sbc .imm rfl rfl rfl rfl
theorem sbcZp (a : Byte) : Statement (.sbcZp a) :=
  of_row _ 0xE5#8 .sbc .zp rfl rfl rfl rfl
theorem sbcZpx (a : Byte) : Statement (.sbcZpx a) :=
  of_row _ 0xF5#8 .sbc .zpx rfl rfl rfl rfl
theorem sbcAbs (a : Word) : Statement (.sbcAbs a) :=
  of_row _ 0xED#8 .sbc .abs rfl rfl rfl rfl
theorem sbcAbx (a : Word) : Statement (.sbcAbx a) :=
  of_row _ 0xFD#8 .sbc .abx rfl rfl rfl rfl
theorem sbcAby (a : Word) : Statement (.sbcAby a) :=
  of_row _ 0xF9#8 .sbc .aby rfl rfl rfl rfl
theorem sbcIzx (a : Byte) : Statement (.sbcIzx a) :=
  of_row _ 0xE1#8 .sbc .izx rfl rfl rfl rfl
theorem sbcIzy (a : Byte) : Statement (.sbcIzy a) :=
  of_row _ 0xF1#8 .sbc .izy rfl rfl rfl rfl
theorem andImm (v : Byte) : Statement (.andImm v) :=
  of_row _ 0x29#8 .and .imm rfl rfl rfl rfl
theorem andZp (a : Byte) : Statement (.andZp a) :=
  of_row _ 0x25#8 .and .zp rfl rfl rfl rfl
theorem andZpx (a : Byte) : Statement (.andZpx a) :=
  of_row _ 0x35#8 .and .zpx rfl rfl rfl rfl
theorem andAbs (a : Word) : Statement (.andAbs a) :=
  of_row _ 0x2D#8 .and .abs rfl rfl rfl rfl
theorem andAbx (a : Word) : Statement (.andAbx a) :=
  of_row _ 0x3D#8 .and .abx rfl rfl rfl rfl
theorem andAby (a : Word) : Statement (.andAby a) :=
  of_row _ 0x39#8 .and .aby rfl rfl rfl rfl
theorem andIzx (a : Byte) : Statement (.andIzx a) :=
  of_row _ 0x21#8 .and .izx rfl rfl rfl rfl
theorem andIzy (a : Byte) : Statement (.andIzy a) :=
  of_row _ 0x31#8 .and .izy rfl rfl rfl rfl
theorem oraImm (v : Byte) : Statement (.oraImm v) :=
  of_row _ 0x09#8 .ora .imm rfl rfl rfl rfl
theorem oraZp (a : Byte) : Statement (.oraZp a) :=
  of_row _ 0x05#8 .ora .zp rfl rfl rfl rfl
theorem oraZpx (a : Byte) : Statement (.oraZpx a) :=
  of_row _ 0x15#8 .ora .zpx rfl rfl rfl rfl
theorem oraAbs (a : Word) : Statement (.oraAbs a) :=
  of_row _ 0x0D#8 .ora .abs rfl rfl rfl rfl
theorem oraAbx (a : Word) : Statement (.oraAbx a) :=
  of_row _ 0x1D#8 .ora .abx rfl rfl rfl rfl
theorem oraAby (a : Word) : Statement (.oraAby a) :=
  of_row _ 0x19#8 .ora .aby rfl rfl rfl rfl
theorem oraIzx (a : Byte) : Statement (.oraIzx a) :=
  of_row _ 0x01#8 .ora .izx rfl rfl rfl rfl
theorem oraIzy (a : Byte) : Statement (.oraIzy a) :=
  of_row _ 0x11#8 .ora .izy rfl rfl rfl rfl
theorem eorImm (v : Byte) : Statement (.eorImm v) :=
  of_row _ 0x49#8 .eor .imm rfl rfl rfl rfl
theorem eorZp (a : Byte) : Statement (.eorZp a) :=
  of_row _ 0x45#8 .eor .zp rfl rfl rfl rfl
theorem eorZpx (a : Byte) : Statement (.eorZpx a) :=
  of_row _ 0x55#8 .eor .zpx rfl rfl rfl rfl
theorem eorAbs (a : Word) : Statement (.eorAbs a) :=
  of_row _ 0x4D#8 .eor .abs rfl rfl rfl rfl
theorem eorAbx (a : Word) : Statement (.eorAbx a) :=
  of_row _ 0x5D#8 .eor .abx rfl rfl rfl rfl
theorem eorAby (a : Word) : Statement (.eorAby a) :=
  of_row _ 0x59#8 .eor .aby rfl rfl rfl rfl
theorem eorIzx (a : Byte) : Statement (.eorIzx a) :=
  of_row _ 0x41#8 .eor .izx rfl rfl rfl rfl
theorem eorIzy (a : Byte) : Statement (.eorIzy a) :=
  of_row _ 0x51#8 .eor .izy rfl rfl rfl rfl
theorem cmpImm (v : Byte) : Statement (.cmpImm v) :=
  of_row _ 0xC9#8 .cmp .imm rfl rfl rfl rfl
theorem cmpZp (a : Byte) : Statement (.cmpZp a) :=
  of_row _ 0xC5#8 .cmp .zp rfl rfl rfl rfl
theorem cmpZpx (a : Byte) : Statement (.cmpZpx a) :=
  of_row _ 0xD5#8 .cmp .zpx rfl rfl rfl rfl
theorem cmpAbs (a : Word) : Statement (.cmpAbs a) :=
  of_row _ 0xCD#8 .cmp .abs rfl rfl rfl rfl
theorem cmpAbx (a : Word) : Statement (.cmpAbx a) :=
  of_row _ 0xDD#8 .cmp .abx rfl rfl rfl rfl
theorem cmpAby (a : Word) : Statement (.cmpAby a) :=
  of_row _ 0xD9#8 .cmp .aby rfl rfl rfl rfl
theorem cmpIzx (a : Byte) : Statement (.cmpIzx a) :=
  of_row _ 0xC1#8 .cmp .izx rfl rfl rfl rfl
theorem cmpIzy (a : Byte) : Statement (.cmpIzy a) :=
  of_row _ 0xD1#8 .cmp .izy rfl rfl rfl rfl
theorem cpxImm (v : Byte) : Statement (.cpxImm v) :=
  of_row _ 0xE0#8 .cpx .imm rfl rfl rfl rfl
theorem cpxZp (a : Byte) : Statement (.cpxZp a) :=
  of_row _ 0xE4#8 .cpx .zp rfl rfl rfl rfl
theorem cpxAbs (a : Word) : Statement (.cpxAbs a) :=
  of_row _ 0xEC#8 .cpx .abs rfl rfl rfl rfl
theorem cpyImm (v : Byte) : Statement (.cpyImm v) :=
  of_row _ 0xC0#8 .cpy .imm rfl rfl rfl rfl
theorem cpyZp (a : Byte) : Statement (.cpyZp a) :=
  of_row _ 0xC4#8 .cpy .zp rfl rfl rfl rfl
theorem cpyAbs (a : Word) : Statement (.cpyAbs a) :=
  of_row _ 0xCC#8 .cpy .abs rfl rfl rfl rfl
theorem bitZp (a : Byte) : Statement (.bitZp a) :=
  of_row _ 0x24#8 .bit .zp rfl rfl rfl rfl
theorem bitAbs (a : Word) : Statement (.bitAbs a) :=
  of_row _ 0x2C#8 .bit .abs rfl rfl rfl rfl
theorem incZp (a : Byte) : Statement (.incZp a) :=
  of_row _ 0xE6#8 .inc .zp rfl rfl rfl rfl
theorem incZpx (a : Byte) : Statement (.incZpx a) :=
  of_row _ 0xF6#8 .inc .zpx rfl rfl rfl rfl
theorem incAbs (a : Word) : Statement (.incAbs a) :=
  of_row _ 0xEE#8 .inc .abs rfl rfl rfl rfl
theorem incAbx (a : Word) : Statement (.incAbx a) :=
  of_row _ 0xFE#8 .inc .abx rfl rfl rfl rfl
theorem decZp (a : Byte) : Statement (.decZp a) :=
  of_row _ 0xC6#8 .dec .zp rfl rfl rfl rfl
theorem decZpx (a : Byte) : Statement (.decZpx a) :=
  of_row _ 0xD6#8 .dec .zpx rfl rfl rfl rfl
theorem decAbs (a : Word) : Statement (.decAbs a) :=
  of_row _ 0xCE#8 .dec .abs rfl rfl rfl rfl
theorem decAbx (a : Word) : Statement (.decAbx a) :=
  of_row _ 0xDE#8 .dec .abx rfl rfl rfl rfl
theorem inx : Statement .inx :=
  of_row _ 0xE8#8 .inx .imp rfl rfl rfl rfl
theorem iny : Statement .iny :=
  of_row _ 0xC8#8 .iny .imp rfl rfl rfl rfl
theorem dex : Statement .dex :=
  of_row _ 0xCA#8 .dex .imp rfl rfl rfl rfl
theorem dey : Statement .dey :=
  of_row _ 0x88#8 .dey .imp rfl rfl rfl rfl
theorem aslAcc : Statement .aslAcc :=
  of_row _ 0x0A#8 .asl .acc rfl rfl rfl rfl
theorem aslZp (a : Byte) : Statement (.aslZp a) :=
  of_row _ 0x06#8 .asl .zp rfl rfl rfl rfl
theorem aslZpx (a : Byte) : Statement (.aslZpx a) :=
  of_row _ 0x16#8 .asl .zpx rfl rfl rfl rfl
theorem aslAbs (a : Word) : Statement (.aslAbs a) :=
  of_row _ 0x0E#8 .asl .abs rfl rfl rfl rfl
theorem aslAbx (a : Word) : Statement (.aslAbx a) :=
  of_row _ 0x1E#8 .asl .abx rfl rfl rfl rfl
theorem lsrAcc : Statement .lsrAcc :=
  of_row _ 0x4A#8 .lsr .acc rfl rfl rfl rfl
theorem lsrZp (a : Byte) : Statement (.lsrZp a) :=
  of_row _ 0x46#8 .lsr .zp rfl rfl rfl rfl
theorem lsrZpx (a : Byte) : Statement (.lsrZpx a) :=
  of_row _ 0x56#8 .lsr .zpx rfl rfl rfl rfl
theorem lsrAbs (a : Word) : Statement (.lsrAbs a) :=
  of_row _ 0x4E#8 .lsr .abs rfl rfl rfl rfl
theorem lsrAbx (a : Word) : Statement (.lsrAbx a) :=
  of_row _ 0x5E#8 .lsr .abx rfl rfl rfl rfl
theorem rolAcc : Statement .rolAcc :=
  of_row _ 0x2A#8 .rol .acc rfl rfl rfl rfl
theorem rolZp (a : Byte) : Statement (.rolZp a) :=
  of_row _ 0x26#8 .rol .zp rfl rfl rfl rfl
theorem rolZpx (a : Byte) : Statement (.rolZpx a) :=
  of_row _ 0x36#8 .rol .zpx rfl rfl rfl rfl
theorem rolAbs (a : Word) : Statement (.rolAbs a) :=
  of_row _ 0x2E#8 .rol .abs rfl rfl rfl rfl
theorem rolAbx (a : Word) : Statement (.rolAbx a) :=
  of_row _ 0x3E#8 .rol .abx rfl rfl rfl rfl
theorem rorAcc : Statement .rorAcc :=
  of_row _ 0x6A#8 .ror .acc rfl rfl rfl rfl
theorem rorZp (a : Byte) : Statement (.rorZp a) :=
  of_row _ 0x66#8 .ror .zp rfl rfl rfl rfl
theorem rorZpx (a : Byte) : Statement (.rorZpx a) :=
  of_row _ 0x76#8 .ror .zpx rfl rfl rfl rfl
theorem rorAbs (a : Word) : Statement (.rorAbs a) :=
  of_row _ 0x6E#8 .ror .abs rfl rfl rfl rfl
theorem rorAbx (a : Word) : Statement (.rorAbx a) :=
  of_row _ 0x7E#8 .ror .abx rfl rfl rfl rfl
theorem jmpAbs (a : Word) : Statement (.jmpAbs a) :=
  of_row _ 0x4C#8 .jmp .abs rfl rfl rfl rfl
theorem jmpInd (a : Word) : Statement (.jmpInd a) :=
  of_row _ 0x6C#8 .jmp .ind rfl rfl rfl rfl
theorem jsr (a : Word) : Statement (.jsr a) :=
  of_row _ 0x20#8 .jsr .abs rfl rfl rfl rfl
theorem rts : Statement .rts :=
  of_row _ 0x60#8 .rts .imp rfl rfl rfl rfl
theorem rti : Statement .rti :=
  of_row _ 0x40#8 .rti .imp rfl rfl rfl rfl
theorem bcc (d : Byte) : Statement (.bcc d) :=
  of_row _ 0x90#8 .bcc .rel rfl rfl rfl rfl
theorem bcs (d : Byte) : Statement (.bcs d) :=
  of_row _ 0xB0#8 .bcs .rel rfl rfl rfl rfl
theorem beq (d : Byte) : Statement (.beq d) :=
  of_row _ 0xF0#8 .beq .rel rfl rfl rfl rfl
theorem bne (d : Byte) : Statement (.bne d) :=
  of_row _ 0xD0#8 .bne .rel rfl rfl rfl rfl
theorem bmi (d : Byte) : Statement (.bmi d) :=
  of_row _ 0x30#8 .bmi .rel rfl rfl rfl rfl
theorem bpl (d : Byte) : Statement (.bpl d) :=
  of_row _ 0x10#8 .bpl .rel rfl rfl rfl rfl
theorem bvc (d : Byte) : Statement (.bvc d) :=
  of_row _ 0x50#8 .bvc .rel rfl rfl rfl rfl
theorem bvs (d : Byte) : Statement (.bvs d) :=
  of_row _ 0x70#8 .bvs .rel rfl rfl rfl rfl
theorem brk : Statement .brk :=
  of_row _ 0x00#8 .brk .imp rfl rfl rfl rfl
theorem nop : Statement .nop :=
  of_row _ 0xEA#8 .nop .imp rfl rfl rfl rfl
theorem pha : Statement .pha :=
  of_row _ 0x48#8 .pha .imp rfl rfl rfl rfl
theorem pla : Statement .pla :=
  of_row _ 0x68#8 .pla .imp rfl rfl rfl rfl
theorem php : Statement .php :=
  of_row _ 0x08#8 .php .imp rfl rfl rfl rfl
theorem plp : Statement .plp :=
  of_row _ 0x28#8 .plp .imp rfl rfl rfl rfl
theorem clc : Statement .clc :=
  of_row _ 0x18#8 .clc .imp rfl rfl rfl rfl
theorem sec : Statement .sec :=
  of_row _ 0x38#8 .sec .imp rfl rfl rfl rfl
theorem cli : Statement .cli :=
  of_row _ 0x58#8 .cli .imp rfl rfl rfl rfl
theorem sei : Statement .sei :=
  of_row _ 0x78#8 .sei .imp rfl rfl rfl rfl
theorem cld : Statement .cld :=
  of_row _ 0xD8#8 .cld .imp rfl rfl rfl rfl
theorem sed : Statement .sed :=
  of_row _ 0xF8#8 .sed .imp rfl rfl rfl rfl
theorem clv : Statement .clv :=
  of_row _ 0xB8#8 .clv .imp rfl rfl rfl rfl
theorem sloZp (a : Byte) : Statement (.sloZp a) :=
  of_row _ 0x07#8 .slo .zp rfl rfl rfl rfl
theorem sloZpx (a : Byte) : Statement (.sloZpx a) :=
  of_row _ 0x17#8 .slo .zpx rfl rfl rfl rfl
theorem sloAbs (a : Word) : Statement (.sloAbs a) :=
  of_row _ 0x0F#8 .slo .abs rfl rfl rfl rfl
theorem sloAbx (a : Word) : Statement (.sloAbx a) :=
  of_row _ 0x1F#8 .slo .abx rfl rfl rfl rfl
theorem sloAby (a : Word) : Statement (.sloAby a) :=
  of_row _ 0x1B#8 .slo .aby rfl rfl rfl rfl
theorem sloIzx (a : Byte) : Statement (.sloIzx a) :=
  of_row _ 0x03#8 .slo .izx rfl rfl rfl rfl
theorem sloIzy (a : Byte) : Statement (.sloIzy a) :=
  of_row _ 0x13#8 .slo .izy rfl rfl rfl rfl
theorem rlaZp (a : Byte) : Statement (.rlaZp a) :=
  of_row _ 0x27#8 .rla .zp rfl rfl rfl rfl
theorem rlaZpx (a : Byte) : Statement (.rlaZpx a) :=
  of_row _ 0x37#8 .rla .zpx rfl rfl rfl rfl
theorem rlaAbs (a : Word) : Statement (.rlaAbs a) :=
  of_row _ 0x2F#8 .rla .abs rfl rfl rfl rfl
theorem rlaAbx (a : Word) : Statement (.rlaAbx a) :=
  of_row _ 0x3F#8 .rla .abx rfl rfl rfl rfl
theorem rlaAby (a : Word) : Statement (.rlaAby a) :=
  of_row _ 0x3B#8 .rla .aby rfl rfl rfl rfl
theorem rlaIzx (a : Byte) : Statement (.rlaIzx a) :=
  of_row _ 0x23#8 .rla .izx rfl rfl rfl rfl
theorem rlaIzy (a : Byte) : Statement (.rlaIzy a) :=
  of_row _ 0x33#8 .rla .izy rfl rfl rfl rfl
theorem sreZp (a : Byte) : Statement (.sreZp a) :=
  of_row _ 0x47#8 .sre .zp rfl rfl rfl rfl
theorem sreZpx (a : Byte) : Statement (.sreZpx a) :=
  of_row _ 0x57#8 .sre .zpx rfl rfl rfl rfl
theorem sreAbs (a : Word) : Statement (.sreAbs a) :=
  of_row _ 0x4F#8 .sre .abs rfl rfl rfl rfl
theorem sreAbx (a : Word) : Statement (.sreAbx a) :=
  of_row _ 0x5F#8 .sre .abx rfl rfl rfl rfl
theorem sreAby (a : Word) : Statement (.sreAby a) :=
  of_row _ 0x5B#8 .sre .aby rfl rfl rfl rfl
theorem sreIzx (a : Byte) : Statement (.sreIzx a) :=
  of_row _ 0x43#8 .sre .izx rfl rfl rfl rfl
theorem sreIzy (a : Byte) : Statement (.sreIzy a) :=
  of_row _ 0x53#8 .sre .izy rfl rfl rfl rfl
theorem rraZp (a : Byte) : Statement (.rraZp a) :=
  of_row _ 0x67#8 .rra .zp rfl rfl rfl rfl
theorem rraZpx (a : Byte) : Statement (.rraZpx a) :=
  of_row _ 0x77#8 .rra .zpx rfl rfl rfl rfl
theorem rraAbs (a : Word) : Statement (.rraAbs a) :=
  of_row _ 0x6F#8 .rra .abs rfl rfl rfl rfl
theorem rraAbx (a : Word) : Statement (.rraAbx a) :=
  of_row _ 0x7F#8 .rra .abx rfl rfl rfl rfl
theorem rraAby (a : Word) : Statement (.rraAby a) :=
  of_row _ 0x7B#8 .rra .aby rfl rfl rfl rfl
theorem rraIzx (a : Byte) : Statement (.rraIzx a) :=
  of_row _ 0x63#8 .rra .izx rfl rfl rfl rfl
theorem rraIzy (a : Byte) : Statement (.rraIzy a) :=
  of_row _ 0x73#8 .rra .izy rfl rfl rfl rfl
theorem saxZp (a : Byte) : Statement (.saxZp a) :=
  of_row _ 0x87#8 .sax .zp rfl rfl rfl rfl
theorem saxZpy (a : Byte) : Statement (.saxZpy a) :=
  of_row _ 0x97#8 .sax .zpy rfl rfl rfl rfl
theorem saxAbs (a : Word) : Statement (.saxAbs a) :=
  of_row _ 0x8F#8 .sax .abs rfl rfl rfl rfl
theorem saxIzx (a : Byte) : Statement (.saxIzx a) :=
  of_row _ 0x83#8 .sax .izx rfl rfl rfl rfl
theorem laxZp (a : Byte) : Statement (.laxZp a) :=
  of_row _ 0xA7#8 .lax .zp rfl rfl rfl rfl
theorem laxZpy (a : Byte) : Statement (.laxZpy a) :=
  of_row _ 0xB7#8 .lax .zpy rfl rfl rfl rfl
theorem laxAbs (a : Word) : Statement (.laxAbs a) :=
  of_row _ 0xAF#8 .lax .abs rfl rfl rfl rfl
theorem laxAby (a : Word) : Statement (.laxAby a) :=
  of_row _ 0xBF#8 .lax .aby rfl rfl rfl rfl
theorem laxIzx (a : Byte) : Statement (.laxIzx a) :=
  of_row _ 0xA3#8 .lax .izx rfl rfl rfl rfl
theorem laxIzy (a : Byte) : Statement (.laxIzy a) :=
  of_row _ 0xB3#8 .lax .izy rfl rfl rfl rfl
theorem dcpZp (a : Byte) : Statement (.dcpZp a) :=
  of_row _ 0xC7#8 .dcp .zp rfl rfl rfl rfl
theorem dcpZpx (a : Byte) : Statement (.dcpZpx a) :=
  of_row _ 0xD7#8 .dcp .zpx rfl rfl rfl rfl
theorem dcpAbs (a : Word) : Statement (.dcpAbs a) :=
  of_row _ 0xCF#8 .dcp .abs rfl rfl rfl rfl
theorem dcpAbx (a : Word) : Statement (.dcpAbx a) :=
  of_row _ 0xDF#8 .dcp .abx rfl rfl rfl rfl
theorem dcpAby (a : Word) : Statement (.dcpAby a) :=
  of_row _ 0xDB#8 .dcp .aby rfl rfl rfl rfl
theorem dcpIzx (a : Byte) : Statement (.dcpIzx a) :=
  of_row _ 0xC3#8 .dcp .izx rfl rfl rfl rfl
theorem dcpIzy (a : Byte) : Statement (.dcpIzy a) :=
  of_row _ 0xD3#8 .dcp .izy rfl rfl rfl rfl
theorem isbZp (a : Byte) : Statement (.isbZp a) :=
  of_row _ 0xE7#8 .isb .zp rfl rfl rfl rfl
theorem isbZpx (a : Byte) : Statement (.isbZpx a) :=
  of_row _ 0xF7#8 .isb .zpx rfl rfl rfl rfl
theorem isbAbs (a : Word) : Statement (.isbAbs a) :=
  of_row _ 0xEF#8 .isb .abs rfl rfl rfl rfl
theorem isbAbx (a : Word) : Statement (.isbAbx a) :=
  of_row _ 0xFF#8 .isb .abx rfl rfl rfl rfl
theorem isbAby (a : Word) : Statement (.isbAby a) :=
  of_row _ 0xFB#8 .isb .aby rfl rfl rfl rfl
theorem isbIzx (a : Byte) : Statement (.isbIzx a) :=
  of_row _ 0xE3#8 .isb .izx rfl rfl rfl rfl
theorem isbIzy (a : Byte) : Statement (.isbIzy a) :=
  of_row _ 0xF3#8 .isb .izy rfl rfl rfl rfl
theorem ancImm0B (v : Byte) : Statement (.ancImm0B v) :=
  of_row _ 0x0B#8 .anc .imm rfl rfl rfl rfl
theorem ancImm2B (v : Byte) : Statement (.ancImm2B v) :=
  of_row _ 0x2B#8 .anc .imm rfl rfl rfl rfl
theorem alrImm (v : Byte) : Statement (.alrImm v) :=
  of_row _ 0x4B#8 .alr .imm rfl rfl rfl rfl
theorem arrImm (v : Byte) : Statement (.arrImm v) :=
  of_row _ 0x6B#8 .arr .imm rfl rfl rfl rfl
theorem axsImm (v : Byte) : Statement (.axsImm v) :=
  of_row _ 0xCB#8 .axs .imm rfl rfl rfl rfl
theorem sbcImmEB (v : Byte) : Statement (.sbcImmEB v) :=
  of_row _ 0xEB#8 .sbc .imm rfl rfl rfl rfl
theorem nop1A : Statement .nop1A :=
  of_row _ 0x1A#8 .nop .imp rfl rfl rfl rfl
theorem nop3A : Statement .nop3A :=
  of_row _ 0x3A#8 .nop .imp rfl rfl rfl rfl
theorem nop5A : Statement .nop5A :=
  of_row _ 0x5A#8 .nop .imp rfl rfl rfl rfl
theorem nop7A : Statement .nop7A :=
  of_row _ 0x7A#8 .nop .imp rfl rfl rfl rfl
theorem nopDA : Statement .nopDA :=
  of_row _ 0xDA#8 .nop .imp rfl rfl rfl rfl
theorem nopFA : Statement .nopFA :=
  of_row _ 0xFA#8 .nop .imp rfl rfl rfl rfl
theorem nopImm80 (v : Byte) : Statement (.nopImm80 v) :=
  of_row _ 0x80#8 .nop .imm rfl rfl rfl rfl
theorem nopImm82 (v : Byte) : Statement (.nopImm82 v) :=
  of_row _ 0x82#8 .nop .imm rfl rfl rfl rfl
theorem nopImm89 (v : Byte) : Statement (.nopImm89 v) :=
  of_row _ 0x89#8 .nop .imm rfl rfl rfl rfl
theorem nopImmC2 (v : Byte) : Statement (.nopImmC2 v) :=
  of_row _ 0xC2#8 .nop .imm rfl rfl rfl rfl
theorem nopImmE2 (v : Byte) : Statement (.nopImmE2 v) :=
  of_row _ 0xE2#8 .nop .imm rfl rfl rfl rfl
theorem nopZp04 (a : Byte) : Statement (.nopZp04 a) :=
  of_row _ 0x04#8 .nop .zp rfl rfl rfl rfl
theorem nopZp44 (a : Byte) : Statement (.nopZp44 a) :=
  of_row _ 0x44#8 .nop .zp rfl rfl rfl rfl
theorem nopZp64 (a : Byte) : Statement (.nopZp64 a) :=
  of_row _ 0x64#8 .nop .zp rfl rfl rfl rfl
theorem nopZpx14 (a : Byte) : Statement (.nopZpx14 a) :=
  of_row _ 0x14#8 .nop .zpx rfl rfl rfl rfl
theorem nopZpx34 (a : Byte) : Statement (.nopZpx34 a) :=
  of_row _ 0x34#8 .nop .zpx rfl rfl rfl rfl
theorem nopZpx54 (a : Byte) : Statement (.nopZpx54 a) :=
  of_row _ 0x54#8 .nop .zpx rfl rfl rfl rfl
theorem nopZpx74 (a : Byte) : Statement (.nopZpx74 a) :=
  of_row _ 0x74#8 .nop .zpx rfl rfl rfl rfl
theorem nopZpxD4 (a : Byte) : Statement (.nopZpxD4 a) :=
  of_row _ 0xD4#8 .nop .zpx rfl rfl rfl rfl
theorem nopZpxF4 (a : Byte) : Statement (.nopZpxF4 a) :=
  of_row _ 0xF4#8 .nop .zpx rfl rfl rfl rfl
theorem nopAbs0C (a : Word) : Statement (.nopAbs0C a) :=
  of_row _ 0x0C#8 .nop .abs rfl rfl rfl rfl
theorem nopAbx1C (a : Word) : Statement (.nopAbx1C a) :=
  of_row _ 0x1C#8 .nop .abx rfl rfl rfl rfl
theorem nopAbx3C (a : Word) : Statement (.nopAbx3C a) :=
  of_row _ 0x3C#8 .nop .abx rfl rfl rfl rfl
theorem nopAbx5C (a : Word) : Statement (.nopAbx5C a) :=
  of_row _ 0x5C#8 .nop .abx rfl rfl rfl rfl
theorem nopAbx7C (a : Word) : Statement (.nopAbx7C a) :=
  of_row _ 0x7C#8 .nop .abx rfl rfl rfl rfl
theorem nopAbxDC (a : Word) : Statement (.nopAbxDC a) :=
  of_row _ 0xDC#8 .nop .abx rfl rfl rfl rfl
theorem nopAbxFC (a : Word) : Statement (.nopAbxFC a) :=
  of_row _ 0xFC#8 .nop .abx rfl rfl rfl rfl

end Sys2Proof.Laws.TableRow
end

