-- ==== Sys2Proof/Laws/Step.lean ====
section
/-! SUPPORT. Everything a fetch and a step can do. -/

namespace Sys2Proof.Machine

/-- The PPU after any number of bus reads. -/
abbrev AfterReads : Ppu → Ppu → Prop := Relation.ReflTransGen ReadEffect

theorem StoppedFrom.read {s t : State} (h : StoppedFrom s t) :
    ∃ i q, t = (s.setPpu q).setRun (.vramRange i) ∧ ReadEffect s.ppu q ∧ s.cart.mirroring = .fourScreen ∧
      0x800 ≤ i ∧ i ≤ 0xFFF := by
  obtain ⟨i, q, rfl, hq, h⟩ := h
  refine ⟨i, q, rfl, ?_, h⟩
  rcases hq with rfl | rfl
  · exact .inl rfl
  · exact .inr (.inr ⟨s.ppu.readBuffer, rfl⟩)

/-- Reads in a row: only the PPU changes, or one of them stops. -/
theorem fetchBytes_cases (n : Nat) (a : Word) (s : State) :
    (∃ bs r, fetchBytes n a s = .ok bs (s.setPpu r) ∧ AfterReads s.ppu r ∧ bs.length = n) ∨
    ∃ i r, fetchBytes n a s = .stop ((s.setPpu r).setRun (.vramRange i)) ∧ AfterReads s.ppu r ∧
      s.cart.mirroring = .fourScreen ∧ 0x800 ≤ i ∧ i ≤ 0xFFF := by
  induction n generalizing a s with
  | zero => exact .inl ⟨[], s.ppu, rfl, .refl, rfl⟩
  | succ n ih =>
    simp only [fetchBytes]
    cases hb : busRead a s with
    | stop t =>
      obtain ⟨i, q, rfl, hq, h⟩ := (busRead_stop hb).read
      exact .inr ⟨i, q, rfl, .single hq, h⟩
    | ok v t =>
      obtain ⟨q, rfl, hq⟩ := busRead_ok hb
      obtain ⟨bs, r, e, hr, hl⟩ | ⟨i, r, e, hr, h⟩ := ih (a + 1#16) (s.setPpu q)
      · exact .inl ⟨v :: bs, r, by rw [Access.ok_andThen, e]; rfl, .head hq hr, by simp [hl]⟩
      · exact .inr ⟨i, r, by rw [Access.ok_andThen, e]; rfl, .head hq hr, h⟩

/-- A fetch changes the PPU by its reads and moves `PC` to byte 1; or it stops, `PC` at the opcode or at byte 1. -/
theorem fetchInstr_cases (s : State) :
    (∃ d i r, fetchInstr s = .ok (d, i) ((s.setPpu r).setPc (s.pc + 1#16)) ∧ AfterReads s.ppu r ∧
      ∃ op, optable op = some d) ∨
    ∃ run r pc, fetchInstr s = .stop (((s.setPpu r).setPc pc).setRun run) ∧ AfterReads s.ppu r ∧
      ((∃ op, run = .unknownOpcode op s.pc) ∨
        ∃ i, run = .vramRange i ∧ s.cart.mirroring = .fourScreen ∧ 0x800 ≤ i ∧ i ≤ 0xFFF) := by
  simp only [fetchInstr]
  cases hb : busRead s.pc s with
  | stop t =>
    obtain ⟨i, q, rfl, hq, h⟩ := (busRead_stop hb).read
    exact .inr ⟨_, q, s.pc, rfl, .single hq, .inr ⟨i, rfl, h⟩⟩
  | ok op t =>
    obtain ⟨q, rfl, hq⟩ := busRead_ok hb
    simp only [Access.ok_andThen]
    cases ho : optable op with
    | none => exact .inr ⟨_, q, s.pc, rfl, .single hq, .inl ⟨op, rfl⟩⟩
    | some d =>
      simp only []
      obtain ⟨bs, r, e, hr, _⟩ | ⟨i, r, e, hr, h⟩ :=
        fetchBytes_cases d.format.operandBytes (s.pc + 1#16) ((s.setPpu q).setPc (s.pc + 1#16))
      · rw [e, Access.ok_andThen]
        cases decode (op :: bs) with
        | ok x => exact .inl ⟨d, x.1, r, rfl, .head hq hr, op, ho⟩
        | error _ => exact .inr ⟨_, r, s.pc + 1#16, rfl, .head hq hr, .inl ⟨op, rfl⟩⟩
      · rw [e]
        exact .inr ⟨_, r, s.pc + 1#16, rfl, .head hq hr, .inr ⟨i, rfl, h⟩⟩

/-- Every descriptor's cycle count is 2 to 8 (30_encoding.md R112). -/
theorem cycles_bounds {op : Byte} {d : Descriptor} (h : optable op = some d) : 2 ≤ d.cycles ∧ d.cycles ≤ 8 := by
  have all : ∀ op : Byte, (optable op).all (fun d => decide (2 ≤ d.cycles ∧ d.cycles ≤ 8)) = true := by decide
  have := all op
  rw [h] at this
  simpa using this

/-- A step runs only while `run` is Running, and is a fetch that stopped or an instruction and the end of the cycle. -/
theorem step_cases {s t : State} (h : step s = .next t) :
    s.run = .running ∧
    ((∃ d i r u, AfterReads s.ppu r ∧ (2 ≤ d ∧ d ≤ 8) ∧
      exec i (((s.setFrameComplete false).setPpu r).setPc (s.pc + 1#16)) = .next u ∧ t = endCycle d u) ∨
    ∃ run r pc, t = (((s.setFrameComplete false).setPpu r).setPc pc).setRun run ∧ AfterReads s.ppu r ∧
      ((∃ op, run = .unknownOpcode op s.pc) ∨
        ∃ i, run = .vramRange i ∧ s.cart.mirroring = .fourScreen ∧ 0x800 ≤ i ∧ i ≤ 0xFFF)) := by
  unfold step runCycle at h
  split at h
  · next hr =>
    refine ⟨hr, ?_⟩
    obtain ⟨d, i, r, e, hq, op, ho⟩ | ⟨run, r, pc, e, hq, hrun⟩ := fetchInstr_cases (s.setFrameComplete false)
    · rw [e] at h
      obtain ⟨u, hu⟩ := exec_next i (((s.setFrameComplete false).setPpu r).setPc (s.pc + 1#16))
      simp only [State.setFrameComplete_pc, hu, Host.Outcome.next.injEq] at h
      exact .inl ⟨d.cycles, i, r, u, hq, cycles_bounds ho, hu, h.symm⟩
    · rw [e] at h
      cases h
      exact .inr ⟨run, r, pc, rfl, hq, hrun⟩
  · cases h

end Sys2Proof.Machine
end

