-- ==== Sys2Proof/Tests/Slice0.lean ====
section
/-! SUPPORT. The model's own tests. Expected results come from spec/: the encodings of 30_encoding.md R106 and R107, and the
worked vectors of 95_test_vectors.md, whose section each test names. The witness theorems show that the hypotheses of
each statement can be met together, at the ends of their ranges. -/

namespace Sys2Proof.Tests

open Sys2Proof.Machine Sys2Proof.Statements

/-! ## Decoding: the word of every encoding, written from R106 and R107 with the operand 0x34 or 0x1234 -/

/-- Every word decodes to its instruction, with no byte left. -/
def decodesTo (l : List (List Byte × Instr)) : Bool :=
  l.all fun p => match decode p.1 with
    | .ok (i, rest) => i == p.2 && rest.isEmpty
    | .error _ => false

theorem test_decode_row0 : decodesTo [
    ([0x00#8], .brk), ([0x01#8, 0x34#8], .oraIzx 0x34#8), ([0x03#8, 0x34#8], .sloIzx 0x34#8),
    ([0x04#8, 0x34#8], .nopZp04 0x34#8), ([0x05#8, 0x34#8], .oraZp 0x34#8), ([0x06#8, 0x34#8], .aslZp 0x34#8),
    ([0x07#8, 0x34#8], .sloZp 0x34#8), ([0x08#8], .php), ([0x09#8, 0x34#8], .oraImm 0x34#8),
    ([0x0A#8], .aslAcc), ([0x0B#8, 0x34#8], .ancImm0B 0x34#8), ([0x0C#8, 0x34#8, 0x12#8], .nopAbs0C 0x1234#16),
    ([0x0D#8, 0x34#8, 0x12#8], .oraAbs 0x1234#16), ([0x0E#8, 0x34#8, 0x12#8], .aslAbs 0x1234#16), ([0x0F#8, 0x34#8, 0x12#8], .sloAbs 0x1234#16)] = true := by decide

theorem test_decode_row1 : decodesTo [
    ([0x10#8, 0x34#8], .bpl 0x34#8), ([0x11#8, 0x34#8], .oraIzy 0x34#8), ([0x13#8, 0x34#8], .sloIzy 0x34#8),
    ([0x14#8, 0x34#8], .nopZpx14 0x34#8), ([0x15#8, 0x34#8], .oraZpx 0x34#8), ([0x16#8, 0x34#8], .aslZpx 0x34#8),
    ([0x17#8, 0x34#8], .sloZpx 0x34#8), ([0x18#8], .clc), ([0x19#8, 0x34#8, 0x12#8], .oraAby 0x1234#16),
    ([0x1A#8], .nop1A), ([0x1B#8, 0x34#8, 0x12#8], .sloAby 0x1234#16), ([0x1C#8, 0x34#8, 0x12#8], .nopAbx1C 0x1234#16),
    ([0x1D#8, 0x34#8, 0x12#8], .oraAbx 0x1234#16), ([0x1E#8, 0x34#8, 0x12#8], .aslAbx 0x1234#16), ([0x1F#8, 0x34#8, 0x12#8], .sloAbx 0x1234#16)] = true := by decide

theorem test_decode_row2 : decodesTo [
    ([0x20#8, 0x34#8, 0x12#8], .jsr 0x1234#16), ([0x21#8, 0x34#8], .andIzx 0x34#8), ([0x23#8, 0x34#8], .rlaIzx 0x34#8),
    ([0x24#8, 0x34#8], .bitZp 0x34#8), ([0x25#8, 0x34#8], .andZp 0x34#8), ([0x26#8, 0x34#8], .rolZp 0x34#8),
    ([0x27#8, 0x34#8], .rlaZp 0x34#8), ([0x28#8], .plp), ([0x29#8, 0x34#8], .andImm 0x34#8),
    ([0x2A#8], .rolAcc), ([0x2B#8, 0x34#8], .ancImm2B 0x34#8), ([0x2C#8, 0x34#8, 0x12#8], .bitAbs 0x1234#16),
    ([0x2D#8, 0x34#8, 0x12#8], .andAbs 0x1234#16), ([0x2E#8, 0x34#8, 0x12#8], .rolAbs 0x1234#16), ([0x2F#8, 0x34#8, 0x12#8], .rlaAbs 0x1234#16)] = true := by decide

theorem test_decode_row3 : decodesTo [
    ([0x30#8, 0x34#8], .bmi 0x34#8), ([0x31#8, 0x34#8], .andIzy 0x34#8), ([0x33#8, 0x34#8], .rlaIzy 0x34#8),
    ([0x34#8, 0x34#8], .nopZpx34 0x34#8), ([0x35#8, 0x34#8], .andZpx 0x34#8), ([0x36#8, 0x34#8], .rolZpx 0x34#8),
    ([0x37#8, 0x34#8], .rlaZpx 0x34#8), ([0x38#8], .sec), ([0x39#8, 0x34#8, 0x12#8], .andAby 0x1234#16),
    ([0x3A#8], .nop3A), ([0x3B#8, 0x34#8, 0x12#8], .rlaAby 0x1234#16), ([0x3C#8, 0x34#8, 0x12#8], .nopAbx3C 0x1234#16),
    ([0x3D#8, 0x34#8, 0x12#8], .andAbx 0x1234#16), ([0x3E#8, 0x34#8, 0x12#8], .rolAbx 0x1234#16), ([0x3F#8, 0x34#8, 0x12#8], .rlaAbx 0x1234#16)] = true := by decide

theorem test_decode_row4 : decodesTo [
    ([0x40#8], .rti), ([0x41#8, 0x34#8], .eorIzx 0x34#8), ([0x43#8, 0x34#8], .sreIzx 0x34#8),
    ([0x44#8, 0x34#8], .nopZp44 0x34#8), ([0x45#8, 0x34#8], .eorZp 0x34#8), ([0x46#8, 0x34#8], .lsrZp 0x34#8),
    ([0x47#8, 0x34#8], .sreZp 0x34#8), ([0x48#8], .pha), ([0x49#8, 0x34#8], .eorImm 0x34#8),
    ([0x4A#8], .lsrAcc), ([0x4B#8, 0x34#8], .alrImm 0x34#8), ([0x4C#8, 0x34#8, 0x12#8], .jmpAbs 0x1234#16),
    ([0x4D#8, 0x34#8, 0x12#8], .eorAbs 0x1234#16), ([0x4E#8, 0x34#8, 0x12#8], .lsrAbs 0x1234#16), ([0x4F#8, 0x34#8, 0x12#8], .sreAbs 0x1234#16)] = true := by decide

theorem test_decode_row5 : decodesTo [
    ([0x50#8, 0x34#8], .bvc 0x34#8), ([0x51#8, 0x34#8], .eorIzy 0x34#8), ([0x53#8, 0x34#8], .sreIzy 0x34#8),
    ([0x54#8, 0x34#8], .nopZpx54 0x34#8), ([0x55#8, 0x34#8], .eorZpx 0x34#8), ([0x56#8, 0x34#8], .lsrZpx 0x34#8),
    ([0x57#8, 0x34#8], .sreZpx 0x34#8), ([0x58#8], .cli), ([0x59#8, 0x34#8, 0x12#8], .eorAby 0x1234#16),
    ([0x5A#8], .nop5A), ([0x5B#8, 0x34#8, 0x12#8], .sreAby 0x1234#16), ([0x5C#8, 0x34#8, 0x12#8], .nopAbx5C 0x1234#16),
    ([0x5D#8, 0x34#8, 0x12#8], .eorAbx 0x1234#16), ([0x5E#8, 0x34#8, 0x12#8], .lsrAbx 0x1234#16), ([0x5F#8, 0x34#8, 0x12#8], .sreAbx 0x1234#16)] = true := by decide

theorem test_decode_row6 : decodesTo [
    ([0x60#8], .rts), ([0x61#8, 0x34#8], .adcIzx 0x34#8), ([0x63#8, 0x34#8], .rraIzx 0x34#8),
    ([0x64#8, 0x34#8], .nopZp64 0x34#8), ([0x65#8, 0x34#8], .adcZp 0x34#8), ([0x66#8, 0x34#8], .rorZp 0x34#8),
    ([0x67#8, 0x34#8], .rraZp 0x34#8), ([0x68#8], .pla), ([0x69#8, 0x34#8], .adcImm 0x34#8),
    ([0x6A#8], .rorAcc), ([0x6B#8, 0x34#8], .arrImm 0x34#8), ([0x6C#8, 0x34#8, 0x12#8], .jmpInd 0x1234#16),
    ([0x6D#8, 0x34#8, 0x12#8], .adcAbs 0x1234#16), ([0x6E#8, 0x34#8, 0x12#8], .rorAbs 0x1234#16), ([0x6F#8, 0x34#8, 0x12#8], .rraAbs 0x1234#16)] = true := by decide

theorem test_decode_row7 : decodesTo [
    ([0x70#8, 0x34#8], .bvs 0x34#8), ([0x71#8, 0x34#8], .adcIzy 0x34#8), ([0x73#8, 0x34#8], .rraIzy 0x34#8),
    ([0x74#8, 0x34#8], .nopZpx74 0x34#8), ([0x75#8, 0x34#8], .adcZpx 0x34#8), ([0x76#8, 0x34#8], .rorZpx 0x34#8),
    ([0x77#8, 0x34#8], .rraZpx 0x34#8), ([0x78#8], .sei), ([0x79#8, 0x34#8, 0x12#8], .adcAby 0x1234#16),
    ([0x7A#8], .nop7A), ([0x7B#8, 0x34#8, 0x12#8], .rraAby 0x1234#16), ([0x7C#8, 0x34#8, 0x12#8], .nopAbx7C 0x1234#16),
    ([0x7D#8, 0x34#8, 0x12#8], .adcAbx 0x1234#16), ([0x7E#8, 0x34#8, 0x12#8], .rorAbx 0x1234#16), ([0x7F#8, 0x34#8, 0x12#8], .rraAbx 0x1234#16)] = true := by decide

theorem test_decode_row8 : decodesTo [
    ([0x80#8, 0x34#8], .nopImm80 0x34#8), ([0x81#8, 0x34#8], .staIzx 0x34#8), ([0x82#8, 0x34#8], .nopImm82 0x34#8),
    ([0x83#8, 0x34#8], .saxIzx 0x34#8), ([0x84#8, 0x34#8], .styZp 0x34#8), ([0x85#8, 0x34#8], .staZp 0x34#8),
    ([0x86#8, 0x34#8], .stxZp 0x34#8), ([0x87#8, 0x34#8], .saxZp 0x34#8), ([0x88#8], .dey),
    ([0x89#8, 0x34#8], .nopImm89 0x34#8), ([0x8A#8], .txa), ([0x8C#8, 0x34#8, 0x12#8], .styAbs 0x1234#16),
    ([0x8D#8, 0x34#8, 0x12#8], .staAbs 0x1234#16), ([0x8E#8, 0x34#8, 0x12#8], .stxAbs 0x1234#16), ([0x8F#8, 0x34#8, 0x12#8], .saxAbs 0x1234#16)] = true := by decide

theorem test_decode_row9 : decodesTo [
    ([0x90#8, 0x34#8], .bcc 0x34#8), ([0x91#8, 0x34#8], .staIzy 0x34#8), ([0x94#8, 0x34#8], .styZpx 0x34#8),
    ([0x95#8, 0x34#8], .staZpx 0x34#8), ([0x96#8, 0x34#8], .stxZpy 0x34#8), ([0x97#8, 0x34#8], .saxZpy 0x34#8),
    ([0x98#8], .tya), ([0x99#8, 0x34#8, 0x12#8], .staAby 0x1234#16), ([0x9A#8], .txs),
    ([0x9D#8, 0x34#8, 0x12#8], .staAbx 0x1234#16)] = true := by decide

theorem test_decode_rowA : decodesTo [
    ([0xA0#8, 0x34#8], .ldyImm 0x34#8), ([0xA1#8, 0x34#8], .ldaIzx 0x34#8), ([0xA2#8, 0x34#8], .ldxImm 0x34#8),
    ([0xA3#8, 0x34#8], .laxIzx 0x34#8), ([0xA4#8, 0x34#8], .ldyZp 0x34#8), ([0xA5#8, 0x34#8], .ldaZp 0x34#8),
    ([0xA6#8, 0x34#8], .ldxZp 0x34#8), ([0xA7#8, 0x34#8], .laxZp 0x34#8), ([0xA8#8], .tay),
    ([0xA9#8, 0x34#8], .ldaImm 0x34#8), ([0xAA#8], .tax), ([0xAC#8, 0x34#8, 0x12#8], .ldyAbs 0x1234#16),
    ([0xAD#8, 0x34#8, 0x12#8], .ldaAbs 0x1234#16), ([0xAE#8, 0x34#8, 0x12#8], .ldxAbs 0x1234#16), ([0xAF#8, 0x34#8, 0x12#8], .laxAbs 0x1234#16)] = true := by decide

theorem test_decode_rowB : decodesTo [
    ([0xB0#8, 0x34#8], .bcs 0x34#8), ([0xB1#8, 0x34#8], .ldaIzy 0x34#8), ([0xB3#8, 0x34#8], .laxIzy 0x34#8),
    ([0xB4#8, 0x34#8], .ldyZpx 0x34#8), ([0xB5#8, 0x34#8], .ldaZpx 0x34#8), ([0xB6#8, 0x34#8], .ldxZpy 0x34#8),
    ([0xB7#8, 0x34#8], .laxZpy 0x34#8), ([0xB8#8], .clv), ([0xB9#8, 0x34#8, 0x12#8], .ldaAby 0x1234#16),
    ([0xBA#8], .tsx), ([0xBC#8, 0x34#8, 0x12#8], .ldyAbx 0x1234#16), ([0xBD#8, 0x34#8, 0x12#8], .ldaAbx 0x1234#16),
    ([0xBE#8, 0x34#8, 0x12#8], .ldxAby 0x1234#16), ([0xBF#8, 0x34#8, 0x12#8], .laxAby 0x1234#16)] = true := by decide

theorem test_decode_rowC : decodesTo [
    ([0xC0#8, 0x34#8], .cpyImm 0x34#8), ([0xC1#8, 0x34#8], .cmpIzx 0x34#8), ([0xC2#8, 0x34#8], .nopImmC2 0x34#8),
    ([0xC3#8, 0x34#8], .dcpIzx 0x34#8), ([0xC4#8, 0x34#8], .cpyZp 0x34#8), ([0xC5#8, 0x34#8], .cmpZp 0x34#8),
    ([0xC6#8, 0x34#8], .decZp 0x34#8), ([0xC7#8, 0x34#8], .dcpZp 0x34#8), ([0xC8#8], .iny),
    ([0xC9#8, 0x34#8], .cmpImm 0x34#8), ([0xCA#8], .dex), ([0xCB#8, 0x34#8], .axsImm 0x34#8),
    ([0xCC#8, 0x34#8, 0x12#8], .cpyAbs 0x1234#16), ([0xCD#8, 0x34#8, 0x12#8], .cmpAbs 0x1234#16), ([0xCE#8, 0x34#8, 0x12#8], .decAbs 0x1234#16),
    ([0xCF#8, 0x34#8, 0x12#8], .dcpAbs 0x1234#16)] = true := by decide

theorem test_decode_rowD : decodesTo [
    ([0xD0#8, 0x34#8], .bne 0x34#8), ([0xD1#8, 0x34#8], .cmpIzy 0x34#8), ([0xD3#8, 0x34#8], .dcpIzy 0x34#8),
    ([0xD4#8, 0x34#8], .nopZpxD4 0x34#8), ([0xD5#8, 0x34#8], .cmpZpx 0x34#8), ([0xD6#8, 0x34#8], .decZpx 0x34#8),
    ([0xD7#8, 0x34#8], .dcpZpx 0x34#8), ([0xD8#8], .cld), ([0xD9#8, 0x34#8, 0x12#8], .cmpAby 0x1234#16),
    ([0xDA#8], .nopDA), ([0xDB#8, 0x34#8, 0x12#8], .dcpAby 0x1234#16), ([0xDC#8, 0x34#8, 0x12#8], .nopAbxDC 0x1234#16),
    ([0xDD#8, 0x34#8, 0x12#8], .cmpAbx 0x1234#16), ([0xDE#8, 0x34#8, 0x12#8], .decAbx 0x1234#16), ([0xDF#8, 0x34#8, 0x12#8], .dcpAbx 0x1234#16)] = true := by decide

theorem test_decode_rowE : decodesTo [
    ([0xE0#8, 0x34#8], .cpxImm 0x34#8), ([0xE1#8, 0x34#8], .sbcIzx 0x34#8), ([0xE2#8, 0x34#8], .nopImmE2 0x34#8),
    ([0xE3#8, 0x34#8], .isbIzx 0x34#8), ([0xE4#8, 0x34#8], .cpxZp 0x34#8), ([0xE5#8, 0x34#8], .sbcZp 0x34#8),
    ([0xE6#8, 0x34#8], .incZp 0x34#8), ([0xE7#8, 0x34#8], .isbZp 0x34#8), ([0xE8#8], .inx),
    ([0xE9#8, 0x34#8], .sbcImm 0x34#8), ([0xEA#8], .nop), ([0xEB#8, 0x34#8], .sbcImmEB 0x34#8),
    ([0xEC#8, 0x34#8, 0x12#8], .cpxAbs 0x1234#16), ([0xED#8, 0x34#8, 0x12#8], .sbcAbs 0x1234#16), ([0xEE#8, 0x34#8, 0x12#8], .incAbs 0x1234#16),
    ([0xEF#8, 0x34#8, 0x12#8], .isbAbs 0x1234#16)] = true := by decide

theorem test_decode_rowF : decodesTo [
    ([0xF0#8, 0x34#8], .beq 0x34#8), ([0xF1#8, 0x34#8], .sbcIzy 0x34#8), ([0xF3#8, 0x34#8], .isbIzy 0x34#8),
    ([0xF4#8, 0x34#8], .nopZpxF4 0x34#8), ([0xF5#8, 0x34#8], .sbcZpx 0x34#8), ([0xF6#8, 0x34#8], .incZpx 0x34#8),
    ([0xF7#8, 0x34#8], .isbZpx 0x34#8), ([0xF8#8], .sed), ([0xF9#8, 0x34#8, 0x12#8], .sbcAby 0x1234#16),
    ([0xFA#8], .nopFA), ([0xFB#8, 0x34#8, 0x12#8], .isbAby 0x1234#16), ([0xFC#8, 0x34#8, 0x12#8], .nopAbxFC 0x1234#16),
    ([0xFD#8, 0x34#8, 0x12#8], .sbcAbx 0x1234#16), ([0xFE#8, 0x34#8, 0x12#8], .incAbx 0x1234#16), ([0xFF#8, 0x34#8, 0x12#8], .isbAbx 0x1234#16)] = true := by decide


/-- The 20 unknown opcodes are rejected by name (R108). -/
theorem test_decode_unknown : unknownOpcodes.all (fun op => match decode [op, 0x34#8, 0x12#8] with
    | .error (.unknownOpcode b) => b == op
    | _ => false) = true := by decide

/-- Bytes that end before the instruction does. -/
theorem test_decode_truncated : [[], [0xA9#8], [0xAD#8], [0xAD#8, 0x34#8]].all (fun bs => match decode bs with
    | .error .truncated => true
    | _ => false) = true := by decide

/-- Bits numbered as the opcode table numbers them: the second byte is bits 15 to 8 (R91). -/
theorem test_decodeTableWord : decodeTableWord 24 0x1234AD = some (.ldaAbs 0x1234#16) ∧
    decodeTableWord 8 0xAD = some (.ldaAbs 0x0000#16) ∧ decodeTableWord 8 0x02 = none := by decide

/-! ## Well-formedness: ill-formed terms the check refuses (R106, R107) -/

/-- A store has no immediate form. -/
theorem test_wellFormed_store_immediate : (Written.mk .sta (.imm 0x05#8)).wellFormed = false := by decide

/-- A load has no indirect form. -/
theorem test_wellFormed_load_indirect : (Written.mk .lda (.ind 0x1234#16)).wellFormed = false := by decide

/-- LDX is indexed by Y, not by itself. -/
theorem test_wellFormed_ldx_by_x : (Written.mk .ldx (.zpx 0x10#8)).wellFormed = false := by decide

/-- A branch has no absolute form, an implied instruction no operand, INC no accumulator form. -/
theorem test_wellFormed_others : (Written.mk .bne (.abs 0x1234#16)).wellFormed = false ∧
    (Written.mk .tax .acc).wellFormed = false ∧ (Written.mk .inc .acc).wellFormed = false := by decide

/-- A well-formed term. -/
theorem test_wellFormed_lda : (Instr.ldaIzy 0x33#8).wellFormed = true := by decide

/-! ## One step from the start state of 95_test_vectors.md section 0: the code at 0x8000, `PC` there -/

/-- The start state with `code` in the program image. -/
def start (code : List Byte) : State := placeBytes 0x8000#16 code (State.reset.setPc 0x8000#16)

/-- The start state with bytes of `ram` set. -/
def withRam (l : List (Nat × Byte)) (s : State) : State := l.foldl (fun s c => s.setRam (s.ram.write c.1 c.2)) s

/-- The start state's PPU changed. -/
def withPpu (f : Ppu → Ppu) (s : State) : State := s.updPpu f

/-- The start state under a FourScreen cartridge. -/
def fourScreen (s : State) : State := s.setCart { s.cart with mirroring := .fourScreen }

/-- The step from the start state, prepared, ends in a state that passes the check. -/
def stepped (code : List Byte) (prep : State → State) (check : State → Bool) : Bool :=
  match step (prep (start code)) with
  | .next t => check t
  | _ => false

/-- 2.1: ZeroPage_X wraps in page 0. -/
theorem test_lda_zpx_wrap : stepped [0xB5#8, 0xFF#8]
    (fun s => withRam [(0x01, 0x66#8), (0x101, 0x99#8)] (s.setX 0x02#8))
    (fun t => t.a == 0x66#8 && t.p == 0x24#8 && t.pc == 0x8002#16) = true := by decide

/-- 2.1: Indirect_Y takes the pointer high byte from 0x0000. -/
theorem test_lda_izy_pointer_wrap : stepped [0xB1#8, 0xFF#8]
    (fun s => withRam [(0xFF, 0xFF#8), (0x00, 0x02#8), (0x300, 0x9C#8)] (s.setY 0x01#8))
    (fun t => t.a == 0x9C#8 && t.p == 0xA4#8 && t.pc == 0x8002#16) = true := by decide

/-- 2.1: ZeroPage_Y wraps. -/
theorem test_ldx_zpy : stepped [0xB6#8, 0xF0#8]
    (fun s => withRam [(0x10, 0x55#8)] (s.setY 0x20#8))
    (fun t => t.x == 0x55#8 && t.p == 0x24#8 && t.pc == 0x8002#16) = true := by decide

/-- S12: the indirect target's high byte comes from 0x0200. -/
theorem test_jmp_indirect_page_wrap : stepped [0x6C#8, 0xFF#8, 0x02#8]
    (fun s => withRam [(0x2FF, 0x34#8), (0x200, 0x12#8), (0x300, 0x56#8)] s)
    (fun t => t.pc == 0x1234#16) = true := by decide

/-- 2.2: a rejected ROM write. -/
theorem test_sta_rom_rejected : stepped [0x8D#8, 0x00#8, 0x80#8]
    (fun s => s.setA 0xAB#8)
    (fun t => t.report == ⟨1, some ⟨.prg, 0x8000#16, 0xAB#8⟩⟩ && t.cart == (start [0x8D#8, 0x00#8, 0x80#8]).cart && t.p == 0x24#8 && t.pc == 0x8003#16) = true := by decide

/-- 2.2: TXS sets no flag. -/
theorem test_txs_no_flags : stepped [0x9A#8]
    id
    (fun t => t.sp == 0x00#8 && t.p == 0x24#8 && t.pc == 0x8001#16) = true := by decide

/-- 2.3: 0x50 + 0x50. -/
theorem test_adc_overflow : stepped [0x69#8, 0x50#8]
    (fun s => s.setA 0x50#8)
    (fun t => t.a == 0xA0#8 && t.p == 0xE4#8) = true := by decide

/-- 2.3: Decimal has no effect. -/
theorem test_adc_decimal_is_binary : stepped [0x69#8, 0x09#8]
    (fun s => (s.setA 0x09#8).setP 0x2C#8)
    (fun t => t.a == 0x12#8 && t.p == 0x2C#8) = true := by decide

/-- 2.3: 0x80 - 0x01. -/
theorem test_sbc_overflow : stepped [0xE9#8, 0x01#8]
    (fun s => (s.setA 0x80#8).setP 0x25#8)
    (fun t => t.a == 0x7F#8 && t.p == 0x65#8) = true := by decide

/-- 2.4: CMP less. -/
theorem test_cmp_less : stepped [0xC9#8, 0x20#8]
    (fun s => s.setA 0x10#8)
    (fun t => t.a == 0x10#8 && t.p == 0xA4#8) = true := by decide

/-- 2.4: N and V from memory, Z from the AND. -/
theorem test_bit_flags : stepped [0x24#8, 0x10#8]
    (fun s => withRam [(0x10, 0xC0#8)] (s.setA 0x01#8))
    (fun t => t.a == 0x01#8 && t.p == 0xE6#8) = true := by decide

/-- 2.4: INC of ROM computes the flags, the write is rejected. -/
theorem test_inc_rom : stepped [0xEE#8, 0x00#8, 0x80#8]
    id
    (fun t => t.p == 0xA4#8 && t.report == ⟨1, some ⟨.prg, 0x8000#16, 0xEF#8⟩⟩) = true := by decide

/-- 2.4: DEC wraps. -/
theorem test_dec_wraps : stepped [0xC6#8, 0x10#8]
    id
    (fun t => t.ram.read 0x10 == 0xFF#8 && t.p == 0xA4#8) = true := by decide

/-- 2.5: the carry enters at bit 0. -/
theorem test_rol_carry_in : stepped [0x2A#8]
    (fun s => (s.setA 0x40#8).setP 0x25#8)
    (fun t => t.a == 0x81#8 && t.p == 0xA4#8) = true := by decide

/-- 2.5: the carry enters at bit 7. -/
theorem test_ror_zpx : stepped [0x76#8, 0x10#8]
    (fun s => (s.setX 0x01#8).setP 0x25#8)
    (fun t => t.ram.read 0x11 == 0x80#8 && t.p == 0xA4#8) = true := by decide

/-- 2.5: Z and N from the memory result. -/
theorem test_asl_memory_flags : stepped [0x06#8, 0x10#8]
    (fun s => withRam [(0x10, 0x80#8)] (s.setA 0x55#8))
    (fun t => t.ram.read 0x10 == 0x00#8 && t.a == 0x55#8 && t.p == 0x27#8) = true := by decide

/-- 2.5: LSR memory. -/
theorem test_lsr_memory : stepped [0x46#8, 0x10#8]
    (fun s => withRam [(0x10, 0x03#8)] s)
    (fun t => t.ram.read 0x10 == 0x01#8 && t.p == 0x25#8) = true := by decide

/-- 2.6: a push wraps. -/
theorem test_pha_wraps : stepped [0x48#8]
    (fun s => (s.setA 0x42#8).setSp 0x00#8)
    (fun t => t.ram.read 0x100 == 0x42#8 && t.sp == 0xFF#8) = true := by decide

/-- 2.6: a pull wraps. -/
theorem test_pla_wraps : stepped [0x68#8]
    (fun s => withRam [(0x100, 0x80#8)] (s.setSp 0xFF#8))
    (fun t => t.a == 0x80#8 && t.sp == 0x00#8 && t.p == 0xA4#8) = true := by decide

/-- 2.6: PHP pushes P OR 0x30. -/
theorem test_php_pushes_break : stepped [0x08#8]
    id
    (fun t => t.ram.read 0x1FD == 0x34#8 && t.sp == 0xFC#8 && t.p == 0x24#8) = true := by decide

/-- 2.6: bit 4 cleared, bit 5 set. -/
theorem test_plp_bits : stepped [0x28#8]
    (fun s => withRam [(0x1FD, 0xFF#8)] (s.setSp 0xFC#8))
    (fun t => t.p == 0xEF#8 && t.sp == 0xFD#8) = true := by decide

/-- 2.7: JSR pushes 0x8002. -/
theorem test_jsr_pushes : stepped [0x20#8, 0x10#8, 0x80#8]
    id
    (fun t => t.pc == 0x8010#16 && t.sp == 0xFB#8 && t.ram.read 0x1FD == 0x80#8 && t.ram.read 0x1FC == 0x02#8) = true := by decide

/-- 2.7: 0xFFFF + 1 wraps. -/
theorem test_rts_wraps : stepped [0x60#8]
    (fun s => withRam [(0x1FC, 0xFF#8), (0x1FD, 0xFF#8)] (s.setSp 0xFB#8))
    (fun t => t.pc == 0x0000#16 && t.sp == 0xFD#8) = true := by decide

/-- 2.7: RTI pulls wrap through 0x01FF. -/
theorem test_rti_pull_wrap : stepped [0x40#8]
    (fun s => withRam [(0x100, 0xCD#8), (0x101, 0xAB#8)] (s.setSp 0xFE#8))
    (fun t => t.p == 0x20#8 && t.pc == 0xABCD#16 && t.sp == 0x01#8) = true := by decide

/-- 2.7: displacement -128. -/
theorem test_bne_backward : stepped [0xD0#8, 0x80#8]
    id
    (fun t => t.pc == 0x7F82#16 && t.ppu.cycleCounter == 6) = true := by decide

/-- 2.7: displacement -1 lands on its own operand byte. -/
theorem test_bne_own_operand : stepped [0xD0#8, 0xFF#8]
    id
    (fun t => t.pc == 0x8001#16) = true := by decide

/-- 2.7: a jump to its own operand byte. -/
theorem test_jmp_own_operand : stepped [0x4C#8, 0x01#8, 0x80#8]
    id
    (fun t => t.pc == 0x8001#16) = true := by decide

/-- 2.7: nothing pushed, no tick. -/
theorem test_brk_halts : stepped [0x00#8]
    (fun s => s.setA 0x01#8)
    (fun t => t.run == .haltedBrk && t.pc == 0x8001#16 && t.sp == 0xFD#8 && t.p == 0x24#8 && t.ppu.cycleCounter == 0) = true := by decide

/-- 2.8: C from the shift, Z and N from A. -/
theorem test_slo : stepped [0x07#8, 0x10#8]
    (fun s => withRam [(0x10, 0x80#8)] s)
    (fun t => t.ram.read 0x10 == 0x00#8 && t.a == 0x00#8 && t.p == 0x27#8) = true := by decide

/-- 2.8. -/
theorem test_rla : stepped [0x27#8, 0x10#8]
    (fun s => withRam [(0x10, 0x80#8)] ((s.setA 0xFF#8).setP 0x25#8))
    (fun t => t.ram.read 0x10 == 0x01#8 && t.a == 0x01#8 && t.p == 0x25#8) = true := by decide

/-- 2.8. -/
theorem test_sre : stepped [0x47#8, 0x10#8]
    (fun s => withRam [(0x10, 0x03#8)] (s.setA 0xFF#8))
    (fun t => t.ram.read 0x10 == 0x01#8 && t.a == 0xFE#8 && t.p == 0xA5#8) = true := by decide

/-- 2.8: the rotate's carry enters the addition. -/
theorem test_rra : stepped [0x67#8, 0x10#8]
    (fun s => withRam [(0x10, 0x03#8)] (s.setA 0x10#8))
    (fun t => t.ram.read 0x10 == 0x01#8 && t.a == 0x12#8 && t.p == 0x24#8) = true := by decide

/-- 2.8: SAX Indirect_X, no flags. -/
theorem test_sax_izx : stepped [0x83#8, 0x20#8]
    (fun s => withRam [(0x24, 0x00#8), (0x25, 0x03#8)] ((s.setA 0xFF#8).setX 0x04#8))
    (fun t => t.ram.read 0x300 == 0x04#8 && t.p == 0x24#8) = true := by decide

/-- 2.8. -/
theorem test_lax : stepped [0xA7#8, 0x10#8]
    (fun s => withRam [(0x10, 0x80#8)] s)
    (fun t => t.a == 0x80#8 && t.x == 0x80#8 && t.p == 0xA4#8) = true := by decide

/-- 2.8: DCP wraps, then equal. -/
theorem test_dcp : stepped [0xC7#8, 0x10#8]
    (fun s => s.setA 0xFF#8)
    (fun t => t.ram.read 0x10 == 0xFF#8 && t.p == 0x27#8) = true := by decide

/-- 2.8. -/
theorem test_isb : stepped [0xE7#8, 0x10#8]
    (fun s => withRam [(0x10, 0x0F#8)] ((s.setA 0x20#8).setP 0x25#8))
    (fun t => t.ram.read 0x10 == 0x10#8 && t.a == 0x10#8 && t.p == 0x25#8) = true := by decide

/-- 2.8: C copies N. -/
theorem test_anc_second : stepped [0x2B#8, 0x00#8]
    (fun s => (s.setA 0xFF#8).setP 0x25#8)
    (fun t => t.a == 0x00#8 && t.p == 0x26#8) = true := by decide

/-- 2.8. -/
theorem test_alr : stepped [0x4B#8, 0x01#8]
    (fun s => s.setA 0x01#8)
    (fun t => t.a == 0x00#8 && t.p == 0x27#8) = true := by decide

/-- 2.8: C is bit 6, V bit 6 XOR bit 5. -/
theorem test_arr_carry_and_overflow : stepped [0x6B#8, 0x7F#8]
    (fun s => s.setA 0xFF#8)
    (fun t => t.a == 0x3F#8 && t.p == 0x64#8) = true := by decide

/-- 2.8: the carry in is ignored. -/
theorem test_axs_borrow : stepped [0xCB#8, 0x02#8]
    (fun s => (s.setA 0x01#8).setX 0xFF#8)
    (fun t => t.x == 0xFF#8 && t.a == 0x01#8 && t.p == 0xA4#8) = true := by decide

/-- 2.8: the NOP's read of port 2 has its side effects. -/
theorem test_nop_reads_port : stepped [0x0C#8, 0x02#8, 0x20#8]
    (fun s => withPpu (fun q => { q with status := 0x80#8, addrLatch := .second, scrollLatch := .second }) s)
    (fun t => t.ppu.status == 0x00#8 && t.ppu.addrLatch == .first && t.ppu.scrollLatch == .first && t.pc == 0x8003#16) = true := by decide

/-- 2.12: an unknown opcode moves nothing. -/
theorem test_unknown_opcode : stepped [0x02#8] id
    (fun t => t.run == .unknownOpcode 0x02#8 0x8000#16 && t.pc == 0x8000#16 && t.ppu.cycleCounter == 0) = true := by decide

/-- 2.10, last row: the step stops at the write, with no operand advance and no tick. -/
theorem test_fourScreen_vramRange : stepped [0x8D#8, 0x07#8, 0x20#8]
    (fun s => fourScreen (withPpu (fun q => { q with addr := 0x2800#16 }) s))
    (fun t => t.run == .vramRange 0x0800 && t.pc == 0x8001#16 && t.ppu.addr == 0x2800#16 && t.ppu.cycleCounter == 0) = true := by
  decide

/-- Program P4's NMI, one step: vblank begins in the tick, the entry pushes PC and status (R327) and costs no tick. -/
theorem test_nmi_at_vblank : stepped [0xEA#8]
    (fun s => withPpu (fun q => { q with scanLine := 240, cycleCounter := 340, ctrl := 0x80#8 }) s)
    (fun t => t.ppu.status == 0x80#8 && !t.ppu.nmiLatch && t.ppu.scanLine == 241 && t.ppu.cycleCounter == 5 &&
      t.sp == 0xFA#8 && t.ram.read 0x1FD == 0x80#8 && t.ram.read 0x1FC == 0x01#8 && t.ram.read 0x1FB == 0x24#8 &&
      t.p == 0x24#8 && t.pc == 0x0000#16 && !t.frameComplete) = true := by decide

/-! ## Port accesses in order, from the start state (95_test_vectors.md 2.10) -/

/-- Port accesses in order: a write of a byte, or a read, whose bytes are collected. -/
def ports : List (Nat × Option Byte) → State → Access (List Byte)
  | [], s => .ok [] s
  | (p, some v) :: l, s => (portWrite p v s).andThen fun _ s => ports l s
  | (p, none) :: l, s => (portRead p s).andThen fun b s => (ports l s).andThen fun bs s => .ok (b :: bs) s

/-- The accesses read these bytes and leave a PPU that passes the check. -/
def accessed (l : List (Nat × Option Byte)) (prep : State → State) (bytes : List Byte) (check : State → Bool) : Bool :=
  match ports l (prep State.reset) with
  | .ok bs t => bs == bytes && check t
  | .stop _ => false

/-- 2.10: the palette alias, and an unbuffered palette read. -/
theorem test_palette_alias : accessed [(6, some 0x3F#8), (6, some 0x10#8), (7, some 0x15#8), (6, some 0x3F#8),
    (6, some 0x00#8), (7, none)] id [0x15#8]
    (fun t => t.ppu.palette.read 0 == 0x15#8 && t.ppu.palette.read 16 == 0x00#8 && t.ppu.readBuffer == 0x00#8 &&
      t.ppu.addr == 0x3F01#16) = true := by decide

/-- 2.10: the increment by 32 wraps. -/
theorem test_increment_wraps : accessed [(0, some 0x04#8), (6, some 0x3F#8), (6, some 0xF0#8), (7, none)] id [0x00#8]
    (fun t => t.ppu.addr == 0x0010#16) = true := by decide

/-- 2.10: reads are one byte behind. -/
theorem test_buffered_reads : accessed [(6, some 0x00#8), (6, some 0x00#8), (7, none), (7, none), (7, none)]
    (fun s => s.setCart { s.cart with chr := [(0, 0x11#8), (1, 0x22#8)] }) [0x00#8, 0x11#8, 0x22#8]
    (fun t => t.ppu.addr == 0x0003#16 && t.ppu.readBuffer == 0x00#8) = true := by decide

/-- 2.10: Horizontal, 0x3EFF mirrors 0x2EFF and folds to 0x6FF; Vertical, 0x2800 folds to 0x000. -/
theorem test_mirroring : accessed [(6, some 0x3E#8), (6, some 0xFF#8), (7, some 0x6F#8)] id []
    (fun t => t.ppu.vram.read 0x6FF == 0x6F#8) = true ∧
    accessed [(6, some 0x28#8), (6, some 0x00#8), (7, some 0xA8#8)]
      (fun s => s.setCart { s.cart with mirroring := .vertical }) [] (fun t => t.ppu.vram.read 0 == 0xA8#8) = true := by decide

/-- 2.10: a rejected character-ROM write still increments. -/
theorem test_chr_rejected : accessed [(6, some 0x10#8), (6, some 0x00#8), (7, some 0x77#8)] id []
    (fun t => t.report == ⟨1, some ⟨.chr, 0x1000#16, 0x77#8⟩⟩ && t.ppu.addr == 0x1001#16) = true := by decide

/-- 2.10: the OAM pointer wraps on writes and stays on reads. -/
theorem test_oam : accessed [(3, some 0xFE#8), (4, some 0x01#8), (4, some 0x02#8), (4, some 0x03#8), (3, some 0xFF#8),
    (4, none), (4, none)] id [0x02#8, 0x02#8]
    (fun t => t.ppu.oam.read 0xFE == 0x01#8 && t.ppu.oam.read 0 == 0x03#8 && t.ppu.oamAddr == 0xFF#8) = true := by decide

/-- 2.10: the two latches are independent; a Status read clears bit 7 alone and resets both. -/
theorem test_latches : accessed [(6, some 0x21#8), (5, some 0x99#8), (6, some 0x08#8), (2, none)]
    (withPpu fun q => { q with scrollLatch := .second, status := 0xE0#8 }) [0xE0#8]
    (fun t => t.ppu.addr == 0x2108#16 && t.ppu.scrollY == 0x99#8 && t.ppu.status == 0x60#8 && t.ppu.addrLatch == .first &&
      t.ppu.scrollLatch == .first) = true := by decide

/-- 2.10: the NMI latch is set on the edge of generate-NMI in vblank, and disabling does not cancel it. -/
theorem test_ctrl_rearm : accessed [(0, some 0x80#8), (0, some 0x00#8)] (withPpu fun q => { q with status := 0x80#8 }) []
    (fun t => t.ppu.nmiLatch && t.ppu.ctrl == 0x00#8) = true ∧
    accessed [(0, some 0x80#8)] id [] (fun t => !t.ppu.nmiLatch) = true := by decide

/-- 2.11: vblank entry, and the frame wrap. -/
theorem test_ticks : (ppuTick 3 { Ppu.reset with scanLine := 240, cycleCounter := 340, ctrl := 0x80#8, status := 0x60#8 } =
      ({ Ppu.reset with scanLine := 241, cycleCounter := 2, ctrl := 0x80#8, status := 0xA0#8, nmiLatch := true }, false)) ∧
    ppuTick 3 { Ppu.reset with scanLine := 261, cycleCounter := 340, status := 0xE0#8, nmiLatch := true } =
      ({ Ppu.reset with scanLine := 0, cycleCounter := 2, status := 0x20#8 }, true) := by decide

/-- 2.9: a 32 KB image is not mirrored, a 16 KB one is. -/
theorem test_prg_windows :
    (Cartridge.mk .kb32 [(0x0000, 0xAA#8), (0x3FFF, 0xBB#8), (0x4000, 0xCC#8), (0x7FFF, 0xDD#8)] [] .horizontal).prgRead 0xC000#16
      = 0xCC#8 ∧
    (Cartridge.mk .kb16 [(0x0000, 0xAA#8), (0x3FFF, 0xBB#8)] [] .horizontal).prgRead 0xC000#16 = 0xAA#8 := by decide

/-- R5: an image of an illegal length is refused. -/
theorem test_construct_refuses : (match construct [0x00#8] [] .horizontal with
    | .refused .badImageSize => true
    | _ => false) = true := by decide

/-- A placed instruction is the first the machine runs after reset, and BRK of the empty memory is what runs otherwise. -/
theorem test_withFetchWord : (match step (State.reset.withFetchWord 16 0x05A9) with
    | .next t => t.a == 0x05#8 && t.pc == 0x0002#16
    | _ => false) = true ∧
    (match step State.reset with
    | .next t => t.run == .haltedBrk
    | _ => false) = true := by decide

/-! ## Witnesses: the hypotheses of each statement, met together -/

/-- A FourScreen machine whose data port is at the first index outside `vram`. -/
def vramFault : State := fourScreen (withPpu (fun q => { q with addr := 0x2800#16 }) State.reset)

/-- A FourScreen machine whose data port is at the last byte of `vram`: a read is in range, the next access is not. -/
def rmwFault : State := fourScreen (withPpu (fun q => { q with addr := 0x27FF#16 }) State.reset)

/-- Machines at the ends of the ranges of the Address register. -/
def dataPortAt (a : Word) : State := withPpu (fun q => { q with addr := a }) State.reset

/-- Running from the last PPU cycle before vblank, with generate-NMI on. -/
def beforeVblank : State :=
  withPpu (fun q => { q with scanLine := 240, cycleCounter := 340, ctrl := 0x80#8 }) (start [0xEA#8])

theorem beforeVblank_inv : beforeVblank.Inv where
  stores := ⟨by decide, by decide, by decide, by decide, by decide⟩
  addr := by decide
  status := by decide
  break_ := by decide
  scanLine := by decide
  cycleCounter := by decide
  nmiTaken := by decide

/-- The step goes on to a next state. -/
def goesOn (s : State) : Bool := match step s with
  | .next _ => true
  | _ => false

theorem next_of_goesOn {s : State} (h : goesOn s = true) : ∃ t, step s = .next t := by
  unfold goesOn at h
  split at h
  · next t e => exact ⟨t, e⟩
  · simp at h

theorem witness_DecodedBytesAreTheEncoding : decode [0xAD#8, 0xFF#8, 0xFF#8, 0xEA#8] = .ok (.ldaAbs 0xFFFF#16, [0xEA#8]) := rfl

theorem witness_DescriptorsAndUnknownOpcodes : 0x02#8 ∈ unknownOpcodes ∧ 0xBB#8 ∈ unknownOpcodes := by decide

theorem witness_ResetMeetsTheInvariant : Cartridge.blank.wf ∧
    (Cartridge.mk .kb32 [(0x7FFF, 0xA9#8)] [(0x1FFF, 0x01#8)] .fourScreen).wf := by decide

theorem witness_ConstructHoldsTheImagesOrRefuses : (List.replicate 0x4000 0x00#8).length = 0x4000 ∧
    (List.replicate 0x8000 0x00#8).length = 0x8000 ∧ (List.replicate 0x2000 0x00#8).length = 0x2000 ∧
    ¬ (([0x00#8] : List Byte).length = 0x4000 ∨ ([0x00#8] : List Byte).length = 0x8000) ∧
    ([] : List Byte).length ≠ 0x2000 :=
  ⟨List.length_replicate .., List.length_replicate .., List.length_replicate .., by decide, by decide⟩

/-- A run that has ended, one that has not, and one that takes a step. -/
theorem witness_RunEndsInTheFirstStateThatIsNotRunning :
    (State.reset.run = .running ∧ ∃ u, step State.reset = .next u) ∧ (State.reset.setRun .haltedBrk).run ≠ .running ∧
    (∃ t, runFor 1 (State.reset.setRun .haltedBrk) = .next t ∧ t.run ≠ .running) ∧
    ∃ t, runFor 0 State.reset = .next t ∧ t.run = .running :=
  ⟨⟨rfl, _, rfl⟩, by decide, ⟨_, rfl, by decide⟩, _, rfl, rfl⟩

theorem witness_StepKeepsTheInvariant : beforeVblank.Inv ∧ ∃ t, step beforeVblank = .next t :=
  ⟨beforeVblank_inv, next_of_goesOn (by decide)⟩

theorem witness_StepKeepsTheCartridge : ∃ t, step beforeVblank = .next t := next_of_goesOn (by decide)

theorem witness_RamWindowIsMirrored : (0x0000#16).toNat ≤ 0x1FFF ∧ (0x1FFF#16).toNat ≤ 0x1FFF ∧
    (0x0000#16).toNat < 0x0800 ∧ (0x07FF#16).toNat < 0x0800 := by decide

theorem witness_PortRomAndUnmappedWindows :
    (0x2000 ≤ (0x2000#16).toNat ∧ (0x2000#16).toNat ≤ 0x3FFF) ∧ (0x2000 ≤ (0x3FFF#16).toNat ∧ (0x3FFF#16).toNat ≤ 0x3FFF) ∧
    0x8000 ≤ (0x8000#16).toNat ∧ 0x8000 ≤ (0xFFFF#16).toNat ∧
    (0x4000 ≤ (0x4000#16).toNat ∧ (0x4000#16).toNat ≤ 0x7FFF) ∧ 0x4000 ≤ (0x7FFF#16).toNat ∧ (0x7FFF#16).toNat ≤ 0x7FFF ∧
    0 ∈ [0, 1, 3, 5, 6] ∧ 6 ∈ [0, 1, 3, 5, 6] := by decide

theorem witness_RejectedWritesAreRecorded : 0x8000 ≤ (0x8000#16).toNat ∧ 0x8000 ≤ (0xFFFF#16).toNat ∧
    (dataPortAt 0x0000#16).ppu.addr.toNat ≤ 0x1FFF ∧ (dataPortAt 0x1FFF#16).ppu.addr.toNat ≤ 0x1FFF := by decide

theorem witness_StepRecordsAtMostOneRejectedWrite :
    (∃ t, step (start [0x8D#8, 0x00#8, 0x80#8]) = .next t) ∧
    ∃ t, step ((start [0x8D#8, 0x00#8, 0x80#8]).setReport ⟨1, some ⟨.chr, 0x0000#16, 0x01#8⟩⟩) = .next t :=
  ⟨next_of_goesOn (by decide), next_of_goesOn (by decide)⟩

theorem witness_PushAndPopAWord : 0x1FE ≠ stackIndex State.reset.sp ∧ 0x1FE ≠ stackIndex (State.reset.sp - 1#8) := by decide

theorem witness_StackIsLastInFirstOut : ([] : List Byte).length ≤ 256 ∧ (List.replicate 256 0x01#8).length ≤ 256 :=
  ⟨by decide, (List.length_replicate ..).le⟩

theorem witness_SetZNWritesZeroAndNegative : Flag.c ≠ .z ∧ Flag.c ≠ .n := by decide

theorem witness_CompareAndBitFlags : (Flag.v ≠ .c ∧ Flag.v ≠ .z ∧ Flag.v ≠ .n) ∧ Flag.c ≠ .z ∧ Flag.c ≠ .n ∧ Flag.c ≠ .v := by
  decide

theorem witness_AddWithCarryResultAndFlags : Flag.d ≠ .c ∧ Flag.d ≠ .v ∧ Flag.d ≠ .z ∧ Flag.d ≠ .n := by decide

/-- A data-port read that goes on, and one that stops. -/
theorem witness_LoadsCompleteInEveryForm :
    (Instr.ldaAbs 0x2007#16).mnemonic = .lda ∧ (Instr.ldxAbs 0x2007#16).mnemonic = .ldx ∧
    (Instr.ldyAbs 0x2007#16).mnemonic = .ldy ∧ (Instr.laxAbs 0x2007#16).mnemonic = .lax ∧
    (Instr.ldaImm 0x00#8).operand.format = .imm ∧
    (∃ m u, readOperand (.abs 0x2007#16) State.reset = .ok m u) ∧ ∃ u, readOperand (.abs 0x2007#16) vramFault = .stop u :=
  ⟨rfl, rfl, rfl, rfl, rfl, ⟨_, _, rfl⟩, _, rfl⟩

theorem witness_AddAndSubtractCompleteInEveryForm :
    (Instr.adcAbs 0x2007#16).mnemonic = .adc ∧ (Instr.sbcAbs 0x2007#16).mnemonic = .sbc ∧
    (Instr.sbcImmEB 0x00#8).mnemonic = .sbc ∧ (Instr.sbcImmEB 0x00#8).operand.format = .imm ∧
    (∃ m u, readOperand (.abs 0x2007#16) State.reset = .ok m u) ∧ ∃ u, readOperand (.abs 0x2007#16) vramFault = .stop u :=
  ⟨rfl, rfl, rfl, rfl, ⟨_, _, rfl⟩, _, rfl⟩

theorem witness_LogicCompletesInEveryForm :
    (Instr.andAbs 0x2007#16).mnemonic = .and ∧ (Instr.oraAbs 0x2007#16).mnemonic = .ora ∧
    (Instr.eorAbs 0x2007#16).mnemonic = .eor ∧
    (∃ m u, readOperand (.abs 0x2007#16) State.reset = .ok m u) ∧ ∃ u, readOperand (.abs 0x2007#16) vramFault = .stop u :=
  ⟨rfl, rfl, rfl, ⟨_, _, rfl⟩, _, rfl⟩

theorem witness_ComparesAndBitCompleteInEveryForm :
    (Instr.cmpAbs 0x2007#16).mnemonic = .cmp ∧ (Instr.cpxAbs 0x2007#16).mnemonic = .cpx ∧
    (Instr.cpyAbs 0x2007#16).mnemonic = .cpy ∧ (Instr.bitAbs 0x2007#16).mnemonic = .bit ∧
    (∃ m u, readOperand (.abs 0x2007#16) State.reset = .ok m u) ∧ ∃ u, readOperand (.abs 0x2007#16) vramFault = .stop u :=
  ⟨rfl, rfl, rfl, rfl, ⟨_, _, rfl⟩, _, rfl⟩

theorem witness_NopsComplete :
    (Instr.nop.mnemonic = .nop ∧ Instr.nop.operand = .imp) ∧
    ((Instr.nopAbs0C 0x2007#16).mnemonic = .nop ∧ (Instr.nopAbs0C 0x2007#16).operand ≠ .imp) ∧
    (∃ m u, readOperand (.abs 0x2007#16) State.reset = .ok m u) ∧ ∃ u, readOperand (.abs 0x2007#16) vramFault = .stop u :=
  ⟨⟨rfl, rfl⟩, ⟨rfl, by decide⟩, ⟨_, _, rfl⟩, _, rfl⟩

/-- A data-port write that goes on, and one that stops. -/
theorem witness_StoresCompleteInEveryForm :
    (Instr.staAbs 0x2007#16).mnemonic = .sta ∧ (Instr.stxAbs 0x2007#16).mnemonic = .stx ∧
    (Instr.styAbs 0x2007#16).mnemonic = .sty ∧ (Instr.saxAbs 0x2007#16).mnemonic = .sax ∧
    (State.reset.cart.mirroring ≠ .fourScreen ∧ ∃ t, busWrite 0x2007#16 0x00#8 State.reset = .ok () t) ∧
    ∃ t, busWrite 0x2007#16 0x00#8 vramFault = .stop t :=
  ⟨rfl, rfl, rfl, rfl, ⟨by decide, _, rfl⟩, _, rfl⟩

/-- A read-modify-write of the data port: both accesses go on, the write stops, the read stops. -/
theorem witness_modifies (v : Byte) : State.reset.cart.mirroring ≠ .fourScreen ∧
    (∃ b w t, busRead 0x2007#16 State.reset = .ok b w ∧ busWrite 0x2007#16 v w = .ok () t) ∧
    (∃ b w t, busRead 0x2007#16 rmwFault = .ok b w ∧ busWrite 0x2007#16 v w = .stop t) ∧
    ∃ t, busRead 0x2007#16 vramFault = .stop t :=
  ⟨by decide, ⟨_, _, _, rfl, rfl⟩, ⟨_, _, _, rfl, rfl⟩, _, rfl⟩

theorem witness_MemoryIncrementAndDecrementComplete :
    (Instr.incAbs 0x2007#16).mnemonic = .inc ∧ (Instr.decAbs 0x2007#16).mnemonic = .dec ∧
    (∃ b w t, busRead 0x2007#16 State.reset = .ok b w ∧ busWrite 0x2007#16 (b + 1#8) w = .ok () t) ∧
    (∃ b w t, busRead 0x2007#16 rmwFault = .ok b w ∧ busWrite 0x2007#16 (b + 1#8) w = .stop t) ∧
    ∃ t, busRead 0x2007#16 vramFault = .stop t :=
  ⟨rfl, rfl, ⟨_, _, _, rfl, rfl⟩, ⟨_, _, _, rfl, rfl⟩, _, rfl⟩

theorem witness_MemoryShiftsCompleteInEveryForm :
    ((Instr.aslAbs 0x2007#16).mnemonic = .asl ∧ (Instr.aslAbs 0x2007#16).operand ≠ .acc) ∧
    ((Instr.lsrAbs 0x2007#16).mnemonic = .lsr ∧ (Instr.lsrAbs 0x2007#16).operand ≠ .acc) ∧
    ((Instr.rolAbs 0x2007#16).mnemonic = .rol ∧ (Instr.rolAbs 0x2007#16).operand ≠ .acc) ∧
    ((Instr.rorAbs 0x2007#16).mnemonic = .ror ∧ (Instr.rorAbs 0x2007#16).operand ≠ .acc) ∧
    (∃ b w t, busRead 0x2007#16 rmwFault = .ok b w ∧ busWrite 0x2007#16 (b <<< 1) w = .stop t) ∧
    ∃ t, busRead 0x2007#16 vramFault = .stop t :=
  ⟨⟨rfl, by decide⟩, ⟨rfl, by decide⟩, ⟨rfl, by decide⟩, ⟨rfl, by decide⟩, ⟨_, _, _, rfl, rfl⟩, _, rfl⟩

theorem witness_ShiftCombinationsCompleteInEveryForm :
    (Instr.sloAbs 0x2007#16).mnemonic = .slo ∧ (Instr.rlaAbs 0x2007#16).mnemonic = .rla ∧
    (Instr.sreAbs 0x2007#16).mnemonic = .sre ∧ (Instr.rraAbs 0x2007#16).mnemonic = .rra ∧
    (∃ b w t, busRead 0x2007#16 rmwFault = .ok b w ∧ busWrite 0x2007#16 (b <<< 1) w = .stop t) ∧
    ∃ t, busRead 0x2007#16 vramFault = .stop t :=
  ⟨rfl, rfl, rfl, rfl, ⟨_, _, _, rfl, rfl⟩, _, rfl⟩

theorem witness_DcpAndIsbCompleteInEveryForm :
    (Instr.dcpAbs 0x2007#16).mnemonic = .dcp ∧ (Instr.isbAbs 0x2007#16).mnemonic = .isb ∧
    (∃ b w t, busRead 0x2007#16 rmwFault = .ok b w ∧ busWrite 0x2007#16 (b - 1#8) w = .stop t) ∧
    ∃ t, busRead 0x2007#16 vramFault = .stop t :=
  ⟨rfl, rfl, ⟨_, _, _, rfl, rfl⟩, _, rfl⟩

/-- A pointer across ports 6 and 7: both reads go on, the second stops, and at port 7 the first stops. -/
theorem witness_JumpsComplete : State.reset.cart.mirroring ≠ .fourScreen ∧
    (∃ l u h t, busRead 0x02FF#16 State.reset = .ok l u ∧ busRead 0x0200#16 u = .ok h t) ∧
    (∃ u, busRead 0x2007#16 vramFault = .stop u) ∧
    ∃ l u t, busRead 0x2006#16 vramFault = .ok l u ∧ busRead 0x2007#16 u = .stop t :=
  ⟨by decide, ⟨_, _, _, _, rfl, rfl⟩, ⟨_, rfl⟩, _, _, _, rfl, rfl⟩

/-- A pointer whose second byte is in the same page and one across ports 6 and 7; an operand byte in every case. -/
theorem witness_EffectiveAddresses :
    (∃ l u h t, busRead 0x02FF#16 State.reset = .ok l u ∧ busRead (pointerSecond 0x02FF#16) u = .ok h t ∧
      pointerSecond 0x02FF#16 = 0x0200#16) ∧
    (∃ l u t, busRead 0x2006#16 vramFault = .ok l u ∧ busRead (pointerSecond 0x2006#16) u = .stop t) ∧
    (∃ u, busRead 0x2007#16 vramFault = .stop u) ∧
    ((Operand.ind 0x2007#16).format ≠ .imm ∧ (∃ ea t, resolve (.ind 0x2007#16) State.reset = .ok ea t) ∧
      ∃ t, resolve (.ind 0x2007#16) vramFault = .stop t) ∧
    (Operand.zpx 0xFF#8).format ≠ .imm ∧ ∃ ea t, resolve (.zpx 0xFF#8) State.reset = .ok ea t :=
  ⟨⟨_, _, _, _, rfl, rfl, by decide⟩, ⟨_, _, _, rfl, rfl⟩, ⟨_, rfl⟩,
    ⟨by decide, ⟨_, _, rfl⟩, _, rfl⟩, by decide, _, _, rfl⟩

theorem witness_SubroutineCallAndReturn :
    ∃ t, exec (.jsr 0x9000#16) (State.reset.setSp 0x00#8) = .next t ∧ t.ram = t.ram ∧ t.sp = t.sp := ⟨_, rfl, rfl, rfl⟩

theorem witness_ReturnFromInterruptCompletesAndUndoesNmiEntry :
    ∃ t, nmiEntry (State.reset.setSp 0x01#8) = .ok () t ∧ t.ram = t.ram ∧ t.sp = t.sp ∧
      flag (State.reset.setSp 0x01#8).p .b = false ∧ flag (State.reset.setSp 0x01#8).p .u = true :=
  ⟨_, rfl, rfl, rfl, by decide, by decide⟩

theorem witness_BrkHaltsAndDoesNothingElse : (start [0x00#8]).run = .running ∧
    ∃ t, busRead (start [0x00#8]).pc { start [0x00#8] with frameComplete := false } = .ok 0x00#8 t :=
  ⟨rfl, _, rfl⟩

theorem witness_ImmediateCombinationsComplete :
    ((Instr.ancImm0B 0x80#8).mnemonic = .anc ∧ (Instr.ancImm0B 0x80#8).operand = .imm 0x80#8) ∧
    (Instr.ancImm2B 0x80#8).mnemonic = .anc ∧ (Instr.ancImm2B 0x80#8).operand = .imm 0x80#8 := by decide

theorem witness_UnlistedFlagsKeepTheirValues :
    (∃ t, exec (.ldaZp 0x10#8) State.reset = .next t ∧ Flag.c ∉ flagsWritten (Instr.ldaZp 0x10#8).mnemonic ∧
      State.reset.run = .running ∧ t.run = .running) ∧
    (Instr.ldaZp 0x10#8).mnemonic ∈ [Mnemonic.lda, .txa, .tya, .pla, .and, .ora, .eor, .lax] :=
  ⟨⟨_, rfl, by decide, rfl, rfl⟩, by decide⟩

theorem witness_OnlyTheListedInstructionsWriteARegister :
    ∃ t, exec (.incZp 0x10#8) State.reset = .next t ∧ (Instr.incZp 0x10#8).operand ≠ .acc ∧
      (Instr.incZp 0x10#8).mnemonic ∉ [Mnemonic.lda, .txa, .tya, .pla, .adc, .sbc, .and, .ora, .eor, .slo, .rla, .sre,
        .rra, .lax, .isb, .anc, .alr, .arr] ∧
      (Instr.incZp 0x10#8).mnemonic ∉ [Mnemonic.ldx, .tax, .tsx, .inx, .dex, .lax, .axs] ∧
      (Instr.incZp 0x10#8).mnemonic ∉ [Mnemonic.ldy, .tay, .iny, .dey] ∧
      (Instr.incZp 0x10#8).mnemonic ∉ [Mnemonic.txs, .pha, .pla, .php, .plp, .jsr, .rts, .rti] ∧
      (Instr.incZp 0x10#8).mnemonic ≠ .brk :=
  ⟨_, rfl, by decide, by decide, by decide, by decide, by decide, by decide⟩

theorem witness_OnlyTheStoredBytesOfRamChange :
    (∃ t, exec (.staAbs 0x1FFF#16) State.reset = .next t ∧ 0x7FE ∉ ramStores (.staAbs 0x1FFF#16) State.reset) ∧
    ∃ t, exec (.jsr 0x9000#16) State.reset = .next t ∧ 0x1FE ∉ ramStores (.jsr 0x9000#16) State.reset :=
  ⟨⟨_, rfl, by decide⟩, _, rfl, by decide⟩

theorem witness_OnlyPortStoresChangePpuMemory :
    ∃ t, exec (.staAbs 0x2004#16) State.reset = .next t ∧
      ¬ (portStored (.staAbs 0x2004#16) State.reset = some 4 ∧ 1 = State.reset.ppu.oamAddr.toNat) ∧
      ¬ (portStored (.staAbs 0x2004#16) State.reset = some 7 ∧
        ppuCell State.reset.cart.mirroring (dataPortAddress (.staAbs 0x2004#16) State.reset) = .vram 1) ∧
      ¬ (portStored (.staAbs 0x2004#16) State.reset = some 7 ∧
        ppuCell State.reset.cart.mirroring (dataPortAddress (.staAbs 0x2004#16) State.reset) = .palette 1) :=
  ⟨_, rfl, by decide, by decide, by decide⟩

/-- Data addresses at both ends of the port window's complement, an indirect jump's among them. -/
theorem witness_PpuRegistersChangeByPortAccessAlone :
    (∃ t, exec (.staAbs 0x7FFF#16) State.reset = .next t ∧ portStored (.staAbs 0x7FFF#16) State.reset = none ∧
      (∀ ea, storeTarget (.staAbs 0x7FFF#16) State.reset = some ea → ea.toNat < 0x8000) ∧
      portStored (.staAbs 0x7FFF#16) State.reset ≠ some 7) ∧
    (∃ t, exec (.incAbs 0x4000#16) State.reset = .next t ∧
      ∀ a ∈ dataAddresses (.incAbs 0x4000#16) State.reset, a.toNat < 0x2000 ∨ 0x4000 ≤ a.toNat) ∧
    ∃ t, exec (.jmpInd 0x1FFF#16) State.reset = .next t ∧
      ∀ a ∈ dataAddresses (.jmpInd 0x1FFF#16) State.reset, a.toNat < 0x2000 ∨ 0x4000 ≤ a.toNat := by
  refine ⟨⟨_, rfl, by decide, fun ea h => ?_, by decide⟩,
    ⟨_, rfl, by simp [dataAddresses, Instr.operand, Instr.mnemonic, resolve]⟩,
    _, rfl, by simp [dataAddresses, Instr.operand, pointerSecond]⟩
  have e : storeTarget (.staAbs 0x7FFF#16) State.reset = some 0x7FFF#16 := rfl
  rw [e] at h; cases h; decide

theorem witness_MaskAndOamPorts : 0 ≠ (0xFF#8).toNat := by decide

theorem witness_ScrollAndAddressLatches : State.reset.ppu.addrLatch = .first ∧ State.reset.ppu.scrollLatch = .first ∧
    (withPpu (fun q => { q with addrLatch := .second }) State.reset).ppu.addrLatch = .second ∧
    (withPpu (fun q => { q with scrollLatch := .second }) State.reset).ppu.scrollLatch = .second := by decide

theorem witness_StatusReadClearsVblankAndLatches : 6 ≠ 7 := by decide

/-- The four ranges of a data access at both their ends. -/
theorem witness_DataReadIsBufferedOneByteBehind :
    (dataPortAt 0x0000#16).ppu.addr.toNat ≤ 0x1FFF ∧ (dataPortAt 0x1FFF#16).ppu.addr.toNat ≤ 0x1FFF ∧
    (0x2000 ≤ (dataPortAt 0x2000#16).ppu.addr.toNat ∧ mirrorVram .horizontal 0x2000#16 < 0x800) ∧
    ((dataPortAt 0x3EFF#16).ppu.addr.toNat ≤ 0x3EFF ∧ mirrorVram .horizontal 0x3EFF#16 < 0x800) ∧
    (vramFault.ppu.addr.toNat ≤ 0x3EFF ∧ 0x800 ≤ mirrorVram vramFault.cart.mirroring vramFault.ppu.addr) ∧
    0x800 ≤ mirrorVram .fourScreen 0x3EFF#16 ∧
    0x3F00 ≤ (dataPortAt 0x3F00#16).ppu.addr.toNat ∧ 0x3F00 ≤ (dataPortAt 0x3FFF#16).ppu.addr.toNat := by decide

theorem witness_DataWriteStoresAndIncrements :
    (0x2000 ≤ (dataPortAt 0x2000#16).ppu.addr.toNat ∧ mirrorVram .horizontal 0x2000#16 < 0x800 ∧ 1 ≠ mirrorVram .horizontal 0x2000#16) ∧
    ((dataPortAt 0x3EFF#16).ppu.addr.toNat ≤ 0x3EFF ∧ mirrorVram .horizontal 0x3EFF#16 < 0x800) ∧
    (vramFault.ppu.addr.toNat ≤ 0x3EFF ∧ 0x800 ≤ mirrorVram vramFault.cart.mirroring vramFault.ppu.addr) ∧
    0x3F00 ≤ (dataPortAt 0x3F00#16).ppu.addr.toNat ∧ 0 ≠ paletteIndex 0x3FFF#16 := by decide

theorem witness_NametableFoldAndPaletteAliases :
    (0x2000 ≤ (0x2000#16).toNat ∧ (0x2000#16).toNat ≤ 0x3EFF) ∧ 0x2000 ≤ (0x3EFF#16).toNat ∧ (0x3EFF#16).toNat ≤ 0x3EFF := by
  decide

/-- Ticks of 6 and 24 PPU cycles at each kind of scanline. -/
theorem witness_TickMovesTheRaster :
    ([6, 24].all fun n => n ≤ 24) = true ∧ Ppu.reset.cycleCounter < 341 ∧ Ppu.reset.scanLine < 262 ∧
    Ppu.reset.cycleCounter + 24 < 341 ∧
    ([(0, 340, 6), (239, 340, 6), (241, 317, 24), (260, 340, 6), (240, 340, 6), (261, 317, 24)].all fun c =>
      c.1 < 262 && c.2.1 < 341 && 341 ≤ c.2.1 + c.2.2) = true := by decide

theorem witness_NmiEntryAndPoll : State.reset.ppu.nmiLatch = false ∧
    (withPpu (fun q => { q with nmiLatch := true }) State.reset).ppu.nmiLatch = true := by decide

/-- A three-byte instruction placed at 0x8000. -/
theorem witness_StepRunsTheDecodedInstruction : (start [0xAD#8, 0x02#8, 0x20#8]).run = .running ∧
    ∃ t u, fetchBytes (encode (.ldaAbs 0x2002#16)).length (start [0xAD#8, 0x02#8, 0x20#8]).pc
        { start [0xAD#8, 0x02#8, 0x20#8] with frameComplete := false } = .ok (encode (.ldaAbs 0x2002#16)) t ∧
      exec (.ldaAbs 0x2002#16) { t with pc := (start [0xAD#8, 0x02#8, 0x20#8]).pc + 1#16 } = .next u :=
  ⟨rfl, _, _, rfl, rfl⟩

theorem witness_StepsExistWhileRunningAndUnknownOpcodesEndTheRun :
    State.reset.run = .running ∧ (State.reset.setRun .haltedBrk).run ≠ .running ∧
    ((∃ t, busRead (start [0x02#8]).pc { start [0x02#8] with frameComplete := false } = .ok 0x02#8 t) ∧
      0x02#8 ∈ unknownOpcodes) ∧
    (vramFault.run = .running ∧ ∃ t, busRead 0x2007#16 { vramFault.setPc 0x2007#16 with frameComplete := false } = .stop t) ∧
    (∃ op u, busRead 0x2004#16 { (withPpu (fun q => { q with oam := q.oam.write 0 0xAD#8 }) State.reset).setPc 0x2004#16 with
      frameComplete := false } = .ok op u ∧ op = 0xAD#8) ∧ (optable 0xAD#8).isSome = true :=
  ⟨rfl, by decide, ⟨⟨_, rfl⟩, by decide⟩, ⟨rfl, _, rfl⟩, ⟨_, _, rfl, by decide⟩, by decide⟩

/-- A step that ends in VramRange: STA to port 7 under FourScreen, the Address register at 0x2800. -/
theorem witness_FatalFaultsOfAStep : ∃ t,
    step (fourScreen (withPpu (fun q => { q with addr := 0x2800#16 }) (start [0x8D#8, 0x07#8, 0x20#8]))) = .next t ∧
      t.run = .vramRange 0x800 := by
  have h : stepped [0x8D#8, 0x07#8, 0x20#8] (fun s => fourScreen (withPpu (fun q => { q with addr := 0x2800#16 }) s))
      (fun t => t.run == .vramRange 0x800) = true := by decide
  unfold stepped at h
  split at h
  · next t e => exact ⟨t, e, by simpa using h⟩
  · simp at h

end Sys2Proof.Tests
end

/-! ## The scope: the configuration (00_scope.md R5, R7; 10_state.md R22, R23) -/

namespace Sys2Proof.Machine

/-! ### Construct -/

theorem prgSizeOf_bytes (size : PrgSize) : prgSizeOf size.bytes = some size := by
  cases size <;> rfl

theorem prgSizeOf_of_illegal {n : Nat} (h : ¬ (n = 0x4000 ∨ n = 0x8000)) : prgSizeOf n = none := by
  obtain ⟨h16, h32⟩ := not_or.1 h
  rw [prgSizeOf, if_neg h16, if_neg h32]

/-- The cartridge of two images given as byte arrays (R5). -/
def cartridgeOf (size : PrgSize) (prg chr : List Byte) (m : Mirroring) : Cartridge :=
  ⟨size, Memory.ofBytes 0 prg, Memory.ofBytes 0 chr, m⟩

theorem construct_of_legal_sizes {size : PrgSize} {prg chr : List Byte} (m : Mirroring)
    (hp : size.bytes = prg.length) (hc : chr.length = 0x2000) :
    construct prg chr m = .next (.resetWith (cartridgeOf size prg chr m)) := by
  rw [construct, ← hp, prgSizeOf_bytes, decide_eq_true hc, cartridgeOf]

theorem construct_of_illegal_sizes {prg chr : List Byte} (m : Mirroring)
    (h : ¬ (prg.length = 0x4000 ∨ prg.length = 0x8000) ∨ chr.length ≠ 0x2000) :
    construct prg chr m = .refused .badImageSize := by
  unfold construct
  rcases h with hp | hc
  · rw [prgSizeOf_of_illegal hp]
  · rw [decide_eq_false hc]
    cases prgSizeOf prg.length <;> rfl

theorem ofBytes_within (bs : List Byte) : (Memory.ofBytes 0 bs).within bs.length := fun c hc => by
  simpa using (Memory.ofBytes_bounds 0 bs c hc).2

theorem cartridgeOf_wf {size : PrgSize} {prg chr : List Byte} (m : Mirroring) (hp : size.bytes = prg.length)
    (hc : chr.length = 0x2000) : (cartridgeOf size prg chr m).wf :=
  ⟨Memory.ofBytes_wf 0 prg, hp ▸ ofBytes_within prg, Memory.ofBytes_wf 0 chr, hc ▸ ofBytes_within chr⟩

theorem read_ofBytes_zero (bs : List Byte) (k : Nat) : (Memory.ofBytes 0 bs).read k = bs.getD k 0x00#8 := by
  simpa using Memory.read_ofBytes 0 bs k

/-- Settles O6: a legal length names a `PrgSize`, and the cartridge of the two byte arrays is the witness. -/
theorem constructHoldsTheImagesOrRefuses : Obligations.ConstructHoldsTheImagesOrRefuses := by
  unfold Obligations.ConstructHoldsTheImagesOrRefuses
  refine fun prg chr m => ⟨fun hp hc => ?_, construct_of_illegal_sizes m⟩
  obtain ⟨size, hsize⟩ : ∃ size : PrgSize, size.bytes = prg.length := by
    rcases hp with hp | hp
    · exact ⟨.kb16, hp.symm⟩
    · exact ⟨.kb32, hp.symm⟩
  exact ⟨cartridgeOf size prg chr m, construct_of_legal_sizes m hsize hc, cartridgeOf_wf m hsize hc, hsize, rfl,
    read_ofBytes_zero prg, read_ofBytes_zero chr⟩

/-! ### No step changes the cartridge -/

theorem StoppedFrom.cart {s t : State} (h : StoppedFrom s t) : t.cart = s.cart := by
  obtain ⟨i, q, rfl, -⟩ := h
  rfl

theorem WriteEffect.cart {ea : Word} {v : Byte} {s t : State} (h : WriteEffect ea v s t) : t.cart = s.cart := by
  cases h <;> rfl

theorem RegistersOnly.cart {u t : State} (h : RegistersOnly u t) : t.cart = u.cart := by
  obtain ⟨-, -, -, -, hcart, -⟩ := h
  exact hcart

theorem ExecEffect.cart {m : Mnemonic} {o : Operand} {s t : State} (h : ExecEffect m o s t) : t.cart = s.cart := by
  cases h with
  | reads q r hq hr ht => exact ht.cart
  | halt hm ht => rw [ht, State.setRun_cart]
  | push hm v ht => exact ht.cart
  | push2 hm v w ht => exact ht.cart
  | store hm hd v u hu ht => exact ht.cart.trans hu.cart
  | modify hm hd b v q u hb hq hu ht => exact ht.cart.trans hu.cart
  | stop q hq ht => exact ht.cart

theorem exec_cart {i : Instr} {s t : State} (h : exec i s = .next t) : t.cart = s.cart := (exec_effect h).cart

@[simp] theorem tickPpu_cart (cycles : Nat) (s : State) : (tickPpu cycles s).cart = s.cart := rfl

@[simp] theorem pollNmi_cart (s : State) : (pollNmi s).cart = s.cart := by
  obtain ⟨-, h⟩ | ⟨-, h⟩ := pollNmi_cases s <;> rw [h]

@[simp] theorem endCycle_cart (cycles : Nat) (s : State) : (endCycle cycles s).cart = s.cart := by
  unfold endCycle
  split <;> simp

theorem step_cart {s t : State} (h : step s = .next t) : t.cart = s.cart := by
  obtain ⟨-, ⟨d, i, r, u, -, -, hexec, rfl⟩ | ⟨run, r, pc, rfl, -⟩⟩ := step_cases h
  · rw [endCycle_cart, exec_cart hexec]
    rfl
  · rfl

@[simp] theorem hostReset_cart (s : State) : (hostReset s).cart = s.cart := rfl

/-- Settles O9: an instruction keeps the cartridge in each of its effects, and the rest of the cycle does not reach it. -/
theorem stepKeepsTheCartridge : Obligations.StepKeepsTheCartridge := by
  unfold Obligations.StepKeepsTheCartridge
  exact fun s t => ⟨step_cart, hostReset_cart s⟩

end Sys2Proof.Machine

/-! ## The state: the status register (10_state.md R16, R18) -/

namespace Sys2Proof.Machine

open Sys2Proof.Statements

/-- Settles O16, by the lemma that gives every flag after `SetZN`. -/
theorem setZNWritesZeroAndNegative : Obligations.SetZNWritesZeroAndNegative := by
  unfold Obligations.SetZNWritesZeroAndNegative
  refine fun p v => ⟨by simp [flag_setZN], by simp [flag_setZN], fun f hz hn => ?_⟩
  rw [flag_setZN, if_neg hn, if_neg hz]

/-! ### The registers and flags an instruction writes -/

/-- The CPU's registers but `PC` (R10 to R13, R15). -/
structure Registers where
  a : Byte
  x : Byte
  y : Byte
  sp : Byte
  p : Byte

/-- The registers a state holds. -/
def State.registers (s : State) : Registers := ⟨s.a, s.x, s.y, s.sp, s.p⟩

theorem WriteEffect.registers {ea : Word} {v : Byte} {s t : State} (h : WriteEffect ea v s t) :
    t.registers = s.registers := by
  cases h <;> rfl

theorem StoppedFrom.registers {s t : State} (h : StoppedFrom s t) : t.registers = s.registers := by
  obtain ⟨i, q, rfl, -⟩ := h
  rfl

/-- The instructions the rules list as writing `A` (R10); the accumulator forms of the four shifts write it too. -/
@[simp] def writesA : List Mnemonic :=
  [.lda, .txa, .tya, .pla, .adc, .sbc, .and, .ora, .eor, .slo, .rla, .sre, .rra, .lax, .isb, .anc, .alr, .arr]

/-- The instructions the rules list as writing `X` (R11). -/
@[simp] def writesX : List Mnemonic := [.ldx, .tax, .tsx, .inx, .dex, .lax, .axs]

/-- The instructions the rules list as writing `Y` (R12). -/
@[simp] def writesY : List Mnemonic := [.ldy, .tay, .iny, .dey]

/-- The instructions the rules list as writing `SP` (R13). -/
@[simp] def writesSp : List Mnemonic := [.txs, .pha, .pla, .php, .plp, .jsr, .rts, .rti]

/-- From `r` to `r'` no register and no flag changes but those the rules of `m` list (R10 to R13, R16). -/
structure OnlyListed (m : Mnemonic) (o : Operand) (r r' : Registers) : Prop where
  a : m ∉ writesA → o ≠ .acc → r'.a = r.a
  x : m ∉ writesX → r'.x = r.x
  y : m ∉ writesY → r'.y = r.y
  sp : m ∉ writesSp → r'.sp = r.sp
  flags : ∀ f ∉ flagsWritten m, flag r'.p f = flag r.p f

theorem OnlyListed.refl (m : Mnemonic) (o : Operand) (r : Registers) : OnlyListed m o r r :=
  ⟨fun _ _ => rfl, fun _ => rfl, fun _ => rfl, fun _ => rfl, fun _ _ => rfl⟩

theorem OnlyListed.of_eq {m : Mnemonic} {o : Operand} {r r' : Registers} (h : r' = r) : OnlyListed m o r r' :=
  h ▸ .refl m o r

theorem OnlyListed.of_read {m : Mnemonic} {o : Operand} {s t : State} {f : Byte → State → State}
    (h : readForm f o s = .next t) (hd : direct o)
    (hf : ∀ b u, OnlyListed m o u.registers (f b u).registers) : OnlyListed m o s.registers t.registers := by
  obtain ⟨b, q, -, rfl⟩ | hs := readForm_cases hd h
  · exact hf b (s.setPpu q)
  · exact .of_eq hs.registers

theorem OnlyListed.of_store {m : Mnemonic} {o : Operand} {s t : State} {value : State → Byte}
    (h : storeForm value o s = .next t) (hd : direct o) : OnlyListed m o s.registers t.registers := by
  obtain ⟨u, hu, rfl⟩ | hs := storeForm_cases hd h
  · exact .of_eq hu.registers
  · exact .of_eq hs.registers

theorem OnlyListed.of_modify {α : Type} {m : Mnemonic} {o : Operand} {s t : State} {core : Byte → State → Byte × α}
    {after : Byte → α → State → State} (h : modifyForm core after o s = .next t) (hd : direct o)
    (hf : ∀ b c u, OnlyListed m o u.registers (after b c u).registers) : OnlyListed m o s.registers t.registers := by
  obtain ⟨v, q, w, -, -, hw, rfl⟩ | hs | ⟨v, q, -, -, hs⟩ := modifyForm_cases hd h
  · have hw : w.registers = s.registers := hw.registers
    exact hw ▸ hf _ _ w
  · exact .of_eq hs.registers
  · exact .of_eq hs.registers

/-- The memory forms of a shift, and the accumulator form, the one that writes `A`. -/
theorem OnlyListed.of_shift {m : Mnemonic} {o : Operand} {s t : State} {core : ShiftCore}
    (h : shiftBy core o s = .next t) (hd : o = .acc ∨ direct o) (hm : flagsWritten m = [.c, .z, .n]) :
    OnlyListed m o s.registers t.registers := by
  have flags (r p : Byte) (c : Bool) (f : Flag) (hf : f ∉ flagsWritten m) : flag (shiftFlags r c p) f = flag p f := by
    simp_all [flag_shiftFlags]
  unfold shiftBy at h
  split at h
  · cases h
    exact ⟨fun _ ho => absurd rfl ho, fun _ => rfl, fun _ => rfl, fun _ => rfl, flags _ _ _⟩
  · next hne =>
    exact .of_modify h (hd.resolve_left fun e => hne e) fun r c u =>
      ⟨fun _ _ => rfl, fun _ => rfl, fun _ => rfl, fun _ => rfl, flags _ _ _⟩

theorem branchIf_registers {c : Bool} {o : Operand} {s t : State} (h : branchIf c o s = .next t) :
    t.registers = s.registers := by
  unfold branchIf branch at h
  split at h
  · split at h <;> cases h <;> rfl
  · cases h; rfl

theorem jmp_operand {i : Instr} (hm : i.mnemonic = .jmp) : ∃ a, i.operand = .abs a ∨ i.operand = .ind a := by
  have hf := format_mem i
  rw [hm] at hf
  cases ho : i.operand <;> simp_all [Operand.format, Mnemonic.formats]

theorem jmp_registers {i : Instr} {s t : State} (hm : i.mnemonic = .jmp) (h : execAs .jmp i.operand s = .next t) :
    t.registers = s.registers := by
  obtain ⟨a, ho | ho⟩ := jmp_operand hm <;> rw [ho] at h
  · cases h; rfl
  · obtain ⟨q, r, w, -, -, rfl⟩ | hs | ⟨q, -, hs⟩ := jmpInd_cases h
    · rfl
    · exact hs.registers
    · exact hs.registers

theorem jsr_operand {i : Instr} (hm : i.mnemonic = .jsr) : ∃ a, i.operand = .abs a := by
  have hf := format_mem i
  rw [hm] at hf
  cases ho : i.operand <;> simp_all [Operand.format, Mnemonic.formats]

theorem nop_operand {i : Instr} (hm : i.mnemonic = .nop) : i.operand = .imp ∨ direct i.operand := by
  have hf := format_mem i
  rw [hm] at hf
  cases ho : i.operand <;> simp_all [Operand.format, Mnemonic.formats, direct]

theorem execAs_nop {o : Operand} (s : State) (hd : direct o) : execAs .nop o s = nopForm o s := by
  cases o with
  | imp => simp [direct, Operand.format] at hd
  | _ => rfl

theorem nop_registers {i : Instr} {s t : State} (hm : i.mnemonic = .nop) (h : execAs .nop i.operand s = .next t) :
    t.registers = s.registers := by
  obtain ho | hd := nop_operand hm
  · rw [ho] at h
    cases h; rfl
  · rw [execAs_nop s hd] at h
    obtain ⟨b, q, -, rfl⟩ | hs := readForm_cases hd h
    · rfl
    · exact hs.registers

/-- PLP and RTI restore the popped status and raise `SP` (R195, R223). -/
theorem restoring_registers {m : Mnemonic} {o : Operand} {s t : State} (hm : m ∈ [Mnemonic.plp, .rti])
    (h : execAs m o s = .next t) : ∃ v sp, t.registers = { s.registers with sp := sp, p := restoredStatus v } := by
  simp only [List.mem_cons, List.not_mem_nil, or_false] at hm
  obtain rfl | rfl := hm
  · rw [execAs, execPlp, pop8_eq, Access.ok_andThen, Access.ok_advance, Host.Outcome.next.injEq] at h
    subst h
    exact ⟨_, _, rfl⟩
  · rw [execAs, execRti, returnFromNmi_eq, Access.ok_jump, Host.Outcome.next.injEq] at h
    subst h
    exact ⟨_, _, rfl⟩

/-- The registers and flags an instruction writes, by the shape of its meaning. -/
theorem exec_onlyListed {i : Instr} {s t : State} (h : exec i s = .next t) :
    OnlyListed i.mnemonic i.operand s.registers t.registers := by
  rw [exec_eq] at h
  cases hm : i.mnemonic <;> rw [hm] at h
  case lda | ldx | ldy | adc | sbc | and | ora | eor | cmp | cpx | cpy | bit | lax | anc | alr | arr | axs =>
    refine .of_read h (direct_of_format hm rfl) fun b u => ?_
    constructor <;>
      simp +contextual [State.registers, loadA, loadX, loadY, addWithCarry, compareWith, shiftAcc, flagsWritten,
        flag_setZN, flag_addFlags, flag_compareFlags, flag_bitFlags, flag_ancFlags, flag_arrFlags, flag_shiftFlags]
  case sta | stx | sty | sax => exact .of_store h (direct_of_format hm rfl)
  case inc | dec | slo | rla | sre | rra | dcp | isb =>
    simp only [execAs, incForm, decForm, sloForm, rlaForm, sreForm, rraForm, dcpForm, isbForm] at h
    refine .of_modify h (direct_of_format hm rfl) fun r c u => ?_
    constructor <;>
      simp +contextual [State.registers, loadA, addWithCarry, compareWith, shiftedMem, flagsWritten, flag_setZN,
        flag_addFlags, flag_compareFlags, flag_shiftFlags]
  case asl | lsr | rol | ror => exact .of_shift h (acc_or_direct hm rfl) rfl
  case tax | tay | txa | tya | tsx | txs | inx | iny | dex | dey | clc | sec | cli | sei | cld | sed | clv | brk =>
    cases h
    constructor <;>
      simp +contextual [State.registers, loadA, loadX, loadY, flagsWritten, flag_setZN, flag_setFlag]
  case bcc | bcs | beq | bne | bmi | bpl | bvc | bvs => exact .of_eq (branchIf_registers h)
  case jmp => exact .of_eq (jmp_registers hm h)
  case nop => exact .of_eq (nop_registers hm h)
  case jsr =>
    obtain ⟨a, ho⟩ := jsr_operand hm
    rw [ho, execAs, execJsr, push16_eq, Access.ok_andThen, Access.ok_jump, Host.Outcome.next.injEq] at h
    subst h
    exact ⟨fun _ _ => rfl, fun _ => rfl, fun _ => rfl, by simp, fun _ _ => rfl⟩
  case pha | pla | php | rts =>
    simp only [execAs, execPha, execPla, execPhp, execRts, push8_eq, pop8_eq, pop16_eq, Access.ok_andThen,
      Access.ok_advance, Access.ok_jump, Host.Outcome.next.injEq] at h
    subst h
    constructor <;> simp +contextual [State.registers, loadA, flagsWritten, flag_setZN]
  case plp | rti =>
    obtain ⟨v, sp, ht⟩ := restoring_registers (by simp) h
    rw [ht]
    exact ⟨fun _ _ => rfl, fun _ => rfl, fun _ => rfl, by simp, fun f hf => absurd (by cases f <;> decide) hf⟩

/-! ### Zero and Negative of the accumulator -/

/-- `Z` and `N` are those of the accumulator (R18). -/
def State.ZNOfA (s : State) : Prop := (flag s.p .z = true ↔ s.a = 0x00#8) ∧ flag s.p .n = s.a.getLsbD 7

theorem zn_of_setZN {s : State} {p : Byte} (h : s.p = setZN p s.a) : s.ZNOfA := by
  rw [State.ZNOfA, h]
  simp [flag_setZN]

theorem StoppedFrom.run {s t : State} (h : StoppedFrom s t) : ∃ k, t.run = .vramRange k := by
  obtain ⟨k, q, rfl, -⟩ := h
  exact ⟨k, rfl⟩

theorem readForm_zn {f : Byte → State → State} {o : Operand} {s t : State} (h : readForm f o s = .next t)
    (hd : direct o) (hrun : t.run = .running) (hf : ∀ b u, (f b u).ZNOfA) : t.ZNOfA := by
  obtain ⟨b, q, -, rfl⟩ | hs := readForm_cases hd h
  · exact hf b (s.setPpu q)
  · obtain ⟨k, hk⟩ := hs.run
    simp [hk] at hrun

/-- R16: the loads, transfers and logical operations that write `A` end in `SetZN(A)`. -/
theorem exec_zn {i : Instr} {s t : State} (h : exec i s = .next t) (hrun : t.run = .running)
    (hi : i.mnemonic ∈ [Mnemonic.lda, .txa, .tya, .pla, .and, .ora, .eor, .lax]) : t.ZNOfA := by
  rw [exec_eq] at h
  cases hm : i.mnemonic <;> rw [hm] at h hi
  case lda | and | ora | eor | lax =>
    exact readForm_zn h (direct_of_format hm rfl) hrun fun _ u => zn_of_setZN (p := u.p) rfl
  case txa | tya => cases h; exact zn_of_setZN (p := s.p) rfl
  case pla =>
    rw [execAs, execPla, pop8_eq, Access.ok_andThen, Access.ok_advance, Host.Outcome.next.injEq] at h
    subst h
    exact zn_of_setZN (p := s.p) rfl
  all_goals exact absurd hi (by decide)

/-- Settles O43: the flags are those of the lists, and `Z` and `N` those of `SetZN(A)`. -/
theorem unlistedFlagsKeepTheirValues : Obligations.UnlistedFlagsKeepTheirValues := by
  unfold Obligations.UnlistedFlagsKeepTheirValues
  exact ⟨fun i s t f h hf => (exec_onlyListed h).flags f hf, fun i s t h _ hrun hi => exec_zn h hrun hi⟩

/-! ### What an instruction changes beside its registers -/

theorem RegistersOnly.ram {u t : State} (h : RegistersOnly u t) : t.ram = u.ram := h.1

theorem RegistersOnly.ppu {u t : State} (h : RegistersOnly u t) : t.ppu = u.ppu := h.2.1

theorem RegistersOnly.report {u t : State} (h : RegistersOnly u t) : t.report = u.report := h.2.2.1

theorem RegistersOnly.run {u t : State} (h : RegistersOnly u t) : t.run = u.run := h.2.2.2.1

theorem RegistersOnly.frameComplete {u t : State} (h : RegistersOnly u t) : t.frameComplete = u.frameComplete :=
  h.2.2.2.2.2

theorem StoppedFrom.frameComplete {s t : State} (h : StoppedFrom s t) : t.frameComplete = s.frameComplete := by
  obtain ⟨k, q, rfl, -⟩ := h
  rfl

theorem WriteEffect.frameComplete {ea : Word} {v : Byte} {s t : State} (h : WriteEffect ea v s t) :
    t.frameComplete = s.frameComplete := by
  cases h <;> rfl

theorem WriteEffect.run {ea : Word} {v : Byte} {s t : State} (h : WriteEffect ea v s t) : t.run = s.run := by
  cases h <;> rfl

theorem exec_frameComplete {i : Instr} {s t : State} (h : exec i s = .next t) : t.frameComplete = s.frameComplete := by
  cases exec_effect h with
  | reads q r hq hr ht => exact ht.frameComplete
  | halt hm ht => rw [ht, State.setRun_frameComplete]
  | push hm v ht => exact ht.frameComplete
  | push2 hm v w ht => exact ht.frameComplete
  | store hm hd v u hu ht => exact ht.frameComplete.trans hu.frameComplete
  | modify hm hd b v q u hb hq hu ht => exact ht.frameComplete.trans hu.frameComplete
  | stop q hq ht => exact ht.frameComplete

/-- R205, R320: `run` changes by BRK or by a VramRange fault alone. -/
theorem exec_run {i : Instr} {s t : State} (h : exec i s = .next t) (hi : i.mnemonic ≠ .brk) :
    t.run = s.run ∨ ∃ k, t.run = .vramRange k := by
  cases exec_effect h with
  | reads q r hq hr ht => exact .inl ht.run
  | halt hm ht => exact absurd hm hi
  | push hm v ht => exact .inl ht.run
  | push2 hm v w ht => exact .inl ht.run
  | store hm hd v u hu ht => exact .inl (ht.run.trans hu.run)
  | modify hm hd b v q u hb hq hu ht => exact .inl (ht.run.trans hu.run)
  | stop q hq ht => exact .inr ht.run

/-- Settles O44: the registers are those of the lists, the rest is what the effects of an instruction leave alone. -/
theorem onlyTheListedInstructionsWriteARegister : Obligations.OnlyTheListedInstructionsWriteARegister := by
  unfold Obligations.OnlyTheListedInstructionsWriteARegister
  intro i s t h
  obtain ⟨ha, hx, hy, hsp, -⟩ := exec_onlyListed h
  exact ⟨ha, hx, hy, hsp, exec_cart h, exec_frameComplete h, exec_run h⟩

/-! ### The bytes of RAM an instruction stores to -/

/-- An instruction whose shape stores to its effective address, in RAM, stores to the cell of that address. -/
theorem ramIndex_mem_ramStores {i : Instr} {s : State} (hm : i.mnemonic ∈ storing ∨ i.mnemonic ∈ modifying)
    (hd : direct i.operand) (hea : (effective i.operand s).toNat ≤ 0x1FFF) :
    ramIndex (effective i.operand s) ∈ ramStores i s := by
  have target : storeTarget i s = some (effective i.operand s) := by
    rw [storeTarget, if_pos hm, resolve_direct s hd]
  cases h : i.mnemonic
  case pha | php | jsr => simp [h, storing, modifying] at hm
  all_goals simp [ramStores, h, target, hea, ramIndex]

theorem WriteEffect.ram_read {ea : Word} {v : Byte} {s t : State} (h : WriteEffect ea v s t) {k : Nat}
    (hk : ea.toNat ≤ 0x1FFF → k ≠ ramIndex ea) : t.ram.read k = s.ram.read k := by
  cases h with
  | ram hea => exact Memory.read_write_other _ _ (hk hea)
  | _ => rfl

theorem StoppedFrom.ram {s t : State} (h : StoppedFrom s t) : t.ram = s.ram := by
  obtain ⟨k, q, rfl, -⟩ := h
  rfl

/-- Settles O45: each effect of an instruction writes at most the cells computed for its mnemonic. -/
theorem onlyTheStoredBytesOfRamChange : Obligations.OnlyTheStoredBytesOfRamChange := by
  unfold Obligations.OnlyTheStoredBytesOfRamChange
  intro i s t k h hk
  have stored (hm : i.mnemonic ∈ storing ∨ i.mnemonic ∈ modifying) (hd : direct i.operand)
      (hea : (effective i.operand s).toNat ≤ 0x1FFF) : k ≠ ramIndex (effective i.operand s) :=
    fun e => hk (e ▸ ramIndex_mem_ramStores hm hd hea)
  cases exec_effect h with
  | reads q r hq hr ht => rw [ht.ram, State.setPpu_ram]
  | halt hm ht => rw [ht, State.setRun_ram]
  | push hm v ht =>
    have cells : ramStores i s = [stackIndex s.sp] := by
      simp only [List.mem_cons, List.not_mem_nil, or_false] at hm
      obtain hm | hm := hm <;> rw [ramStores, hm]
    rw [cells, List.mem_singleton] at hk
    rw [ht.ram]
    exact Memory.read_write_other _ _ hk
  | push2 hm v w ht =>
    have cells : ramStores i s = [stackIndex s.sp, stackIndex (s.sp - 1#8)] := by rw [ramStores, hm]
    rw [cells, List.mem_cons, List.mem_singleton, not_or] at hk
    obtain ⟨hk₁, hk₂⟩ := hk
    rw [ht.ram]
    exact (Memory.read_write_other _ _ hk₂).trans (Memory.read_write_other _ _ hk₁)
  | store hm hd v u hu ht => rw [ht.ram, hu.ram_read (stored (.inl hm) hd)]
  | modify hm hd b v q u hb hq hu ht => rw [ht.ram, hu.ram_read (stored (.inr hm) hd), State.setPpu_ram]
  | stop q hq ht => rw [ht.ram, State.setPpu_ram]

end Sys2Proof.Machine

/-! ## The state: the invariant (10_state.md R17, R31, R36, R37; 50_ppu.md R275; 35_instruction_cycle.md R128) -/

namespace Sys2Proof.Machine

open Sys2Proof.Statements

/-! ### The PPU's part -/

/-- What the invariant says of the PPU but for the NMI latch, which it clears at instruction boundaries only. -/
structure Ppu.Ok (q : Ppu) : Prop where
  vram : q.vram.wf ∧ q.vram.within Params.vramSize
  palette : q.palette.wf ∧ q.palette.within Params.paletteSize
  oam : q.oam.wf ∧ q.oam.within Params.oamSize
  addr : q.addr.toNat ≤ 0x3FFF
  status : q.status = 0x00#8 ∨ q.status = 0x80#8
  scanLine : q.scanLine < Params.scanlinesPerFrame
  cycleCounter : q.cycleCounter < Params.cyclesPerScanline

theorem mask14_toNat_le (a : Word) : (a &&& 0x3FFF#16).toNat ≤ 0x3FFF := by
  rw [BitVec.toNat_and]
  exact Nat.and_le_right

theorem write_wf_within {m : Memory} {n a : Nat} (v : Byte) (h : m.wf ∧ m.within n) (ha : a < n) :
    (m.write a v).wf ∧ (m.write a v).within n :=
  ⟨Memory.write_wf a v h.1, Memory.write_within v ha h.2⟩

theorem Ppu.Ok.vramIncrement {q : Ppu} (h : q.Ok) : (vramIncrement q).Ok :=
  { h with addr := mask14_toNat_le _ }

theorem Ppu.Ok.statusRead {q : Ppu} (h : q.Ok) : (statusReadEffect q).Ok :=
  { h with status := by obtain hs | hs := h.status <;> simp [statusReadEffect, hs] }

theorem Ppu.Ok.oamDataWrite {q : Ppu} (v : Byte) (h : q.Ok) : (oamDataWrite v q).Ok :=
  { h with oam := write_wf_within v h.oam q.oamAddr.isLt }

theorem Ppu.Ok.addrWrite {q : Ppu} (v : Byte) (h : q.Ok) : (addrWrite v q).Ok := by
  unfold Machine.addrWrite
  split <;> exact { h with addr := mask14_toNat_le _ }

theorem Ppu.Ok.scrollWrite {q : Ppu} (v : Byte) (h : q.Ok) : (scrollWrite v q).Ok := by
  unfold Machine.scrollWrite
  split <;> exact { h with }

theorem Ppu.Ok.read {q r : Ppu} (h : q.Ok) (hr : ReadEffect q r) : r.Ok := by
  obtain rfl | rfl | ⟨b, rfl⟩ := hr
  · exact h
  · exact h.statusRead
  · exact { h.vramIncrement with }

theorem Ppu.Ok.reads {q r : Ppu} (h : q.Ok) (hr : AfterReads q r) : r.Ok := by
  induction hr with
  | refl => exact h
  | tail _ hlast ih => exact ih.read hlast

/-- The next scanline as one update: vblank entry shows in Status and in the NMI latch alone (R289, R290). -/
theorem nextScanline_eq (q : Ppu) :
    nextScanline q = { q with
      cycleCounter := q.cycleCounter - Params.cyclesPerScanline
      scanLine := q.scanLine + 1
      status := if q.scanLine + 1 = Params.vblankScanline then (q.status ||| 0x80#8) &&& ~~~0x40#8 else q.status
      nmiLatch := if q.scanLine + 1 = Params.vblankScanline then q.nmiLatch || q.ctrl.getLsbD 7 else q.nmiLatch } := by
  unfold nextScanline
  dsimp only
  split <;> rfl

theorem vblankStatus_ok {st : Byte} (c : Prop) [Decidable c] (h : st = 0x00#8 ∨ st = 0x80#8) :
    (if c then (st ||| 0x80#8) &&& ~~~0x40#8 else st) = 0x00#8 ∨
      (if c then (st ||| 0x80#8) &&& ~~~0x40#8 else st) = 0x80#8 := by
  split
  · obtain rfl | rfl := h <;> decide
  · exact h

theorem frameWrap_status {q : Ppu} (h : q.status = 0x00#8 ∨ q.status = 0x80#8) : (frameWrap q).status = 0x00#8 := by
  obtain h | h := h <;> simp [frameWrap, h]

/-- A tick of at most a scanline keeps the counters in their ranges and Status in its two values (R289 to R291). -/
theorem Ppu.Ok.tick {q : Ppu} {n : Nat} (hn : n ≤ Params.cyclesPerScanline) (h : q.Ok) : (ppuTick n q).1.Ok := by
  have hcycle : q.cycleCounter + n - Params.cyclesPerScanline < Params.cyclesPerScanline := by
    have := h.cycleCounter
    omega
  have hstatus := vblankStatus_ok (q.scanLine + 1 = Params.vblankScanline) h.status
  unfold ppuTick
  dsimp only
  split
  · split
    · rw [nextScanline_eq]
      exact { h with
        cycleCounter := hcycle
        scanLine := (by decide : 0 < Params.scanlinesPerFrame)
        status := .inl (frameWrap_status hstatus) }
    · next hframe =>
      rw [nextScanline_eq] at hframe ⊢
      exact { h with cycleCounter := hcycle, scanLine := not_le.1 hframe, status := hstatus }
  · next hline => exact { h with cycleCounter := not_le.1 hline }

/-! ### The stores and the PPU under an instruction -/

/-- What the invariant says of the stores and the PPU; nothing of it depends on the CPU's registers. -/
structure State.DataOk (s : State) : Prop where
  ram : s.ram.wf ∧ s.ram.within Params.ramSize
  ppu : s.ppu.Ok
  cart : s.cart.wf

/-- The invariant is its data part, the live Break flags and the NMI latch between instructions. -/
theorem State.inv_iff (s : State) :
    s.Inv ↔ s.DataOk ∧ (flag s.p .b = false ∧ flag s.p .u = true) ∧ (s.run = .running → s.ppu.nmiLatch = false) := by
  constructor
  · rintro ⟨⟨ram, vram, palette, oam, cart⟩, addr, status, live, scanLine, cycleCounter, nmi⟩
    exact ⟨⟨ram, ⟨vram, palette, oam, addr, status, scanLine, cycleCounter⟩, cart⟩, live, nmi⟩
  · rintro ⟨⟨ram, ⟨vram, palette, oam, addr, status, scanLine, cycleCounter⟩, cart⟩, live, nmi⟩
    exact ⟨⟨ram, vram, palette, oam, cart⟩, addr, status, live, scanLine, cycleCounter, nmi⟩

theorem State.DataOk.setPpu {s : State} {q : Ppu} (h : s.DataOk) (hq : q.Ok) : (s.setPpu q).DataOk :=
  { h with ppu := hq }

theorem State.DataOk.setRam {s : State} {m : Memory} (h : s.DataOk) (hm : m.wf ∧ m.within Params.ramSize) :
    (s.setRam m).DataOk :=
  { h with ram := hm }

theorem State.DataOk.registersOnly {u t : State} (h : u.DataOk) (ht : RegistersOnly u t) : t.DataOk :=
  ⟨ht.ram ▸ h.ram, ht.ppu ▸ h.ppu, ht.cart ▸ h.cart⟩

theorem State.DataOk.read {s : State} {q : Ppu} (h : s.DataOk) (hq : ReadEffect s.ppu q) : (s.setPpu q).DataOk :=
  h.setPpu (h.ppu.read hq)

theorem State.DataOk.write {ea : Word} {v : Byte} {s t : State} (h : s.DataOk) (ht : WriteEffect ea v s t) :
    t.DataOk := by
  cases ht with
  | ram hea => exact h.setRam (write_wf_within v h.ram (ramIndex_lt ea))
  | port q hea hq =>
    obtain rfl | rfl | rfl | rfl | rfl := hq
    · exact h.setPpu { h.ppu with }
    · exact h.setPpu { h.ppu with }
    · exact h.setPpu { h.ppu with }
    · exact h.setPpu (h.ppu.scrollWrite v)
    · exact h.setPpu (h.ppu.addrWrite v)
  | oam hea => exact h.setPpu (h.ppu.oamDataWrite v)
  | vram k hea hc hk =>
    have stored : Ppu.Ok { s.ppu with vram := s.ppu.vram.write k v } :=
      { h.ppu with vram := write_wf_within v h.ppu.vram hk }
    exact h.setPpu stored.vramIncrement
  | palette k hea hc hk =>
    have stored : Ppu.Ok { s.ppu with palette := s.ppu.palette.write k v } :=
      { h.ppu with palette := write_wf_within v h.ppu.palette hk }
    exact h.setPpu stored.vramIncrement
  | chr hea => exact { h with ppu := h.ppu.vramIncrement }
  | none hea => exact h
  | rom hea => exact { h with }

theorem State.DataOk.stopped {s t : State} (h : s.DataOk) (ht : StoppedFrom s t) : t.DataOk := by
  obtain ⟨k, q, rfl, hq, -⟩ := ht.read
  exact { h.read hq with }

theorem stackCell_lt (sp : Byte) : 0x100 + sp.toNat < Params.ramSize := by
  have := sp.isLt
  simp only [Params.ramSize]
  omega

theorem stackWrite_wf_within {m : Memory} (sp v : Byte) (h : m.wf ∧ m.within Params.ramSize) :
    (m.write (0x100 + sp.toNat) v).wf ∧ (m.write (0x100 + sp.toNat) v).within Params.ramSize :=
  write_wf_within v h (stackCell_lt sp)

theorem State.DataOk.exec {i : Instr} {s t : State} (h : s.DataOk) (ht : exec i s = .next t) : t.DataOk := by
  cases exec_effect ht with
  | reads q r hq hr ht => exact (h.setPpu ((h.ppu.read hq).read hr)).registersOnly ht
  | halt hm ht => exact ht ▸ { h with }
  | push hm v ht => exact (h.setRam (stackWrite_wf_within _ v h.ram)).registersOnly ht
  | push2 hm v w ht => exact (h.setRam (stackWrite_wf_within _ w (stackWrite_wf_within _ v h.ram))).registersOnly ht
  | store hm hd v u hu ht => exact (h.write hu).registersOnly ht
  | modify hm hd b v q u hb hq hu ht => exact ((h.read hq).write hu).registersOnly ht
  | stop q hq ht => exact (h.read hq).stopped ht

/-! ### The live Break flags -/

/-- No rule lists Break or Break2 but those of PLP and RTI (R17). -/
theorem break_not_written {m : Mnemonic} (hm : m ∉ [Mnemonic.plp, .rti]) :
    Flag.b ∉ flagsWritten m ∧ Flag.u ∉ flagsWritten m := by
  cases m <;> simp_all [flagsWritten]

/-- R17: the live Break and Break2 keep their fixed values, as PLP and RTI restore them so. -/
theorem exec_break {i : Instr} {s t : State} (h : exec i s = .next t)
    (hs : flag s.p .b = false ∧ flag s.p .u = true) : flag t.p .b = false ∧ flag t.p .u = true := by
  by_cases hm : i.mnemonic ∈ [Mnemonic.plp, .rti]
  · obtain ⟨v, sp, hr⟩ := restoring_registers hm (exec_eq i s ▸ h)
    have hp : t.p = restoredStatus v := congrArg Registers.p hr
    simp [hp, flag_restoredStatus]
  · obtain ⟨hb, hu⟩ := break_not_written hm
    have keep := (exec_onlyListed h).flags
    exact ⟨(keep .b hb).trans hs.1, (keep .u hu).trans hs.2⟩

/-! ### The end of the cycle -/

theorem State.DataOk.pollNmi {s : State} (h : s.DataOk) : (pollNmi s).DataOk := by
  obtain ⟨-, e⟩ | ⟨-, e⟩ := pollNmi_cases s <;> rw [e]
  · exact h
  · exact {
      ram := stackWrite_wf_within _ _ (stackWrite_wf_within _ _ (stackWrite_wf_within _ _ h.ram))
      ppu := { h.ppu with }
      cart := h.cart }

theorem pollNmi_break {s : State} (h : flag s.p .b = false ∧ flag s.p .u = true) :
    flag (pollNmi s).p .b = false ∧ flag (pollNmi s).p .u = true := by
  obtain ⟨-, e⟩ | ⟨-, e⟩ := pollNmi_cases s <;> rw [e]
  · exact h
  · simpa [flag_setFlag] using h

/-- The poll leaves no request pending (R128). -/
theorem pollNmi_nmiLatch (s : State) : (pollNmi s).ppu.nmiLatch = false := by
  obtain ⟨hl, e⟩ | ⟨-, e⟩ := pollNmi_cases s <;> rw [e]
  exact hl

theorem inv_endCycle {s : State} {cycles : Nat} (hc : cycles ≤ 8) (h : s.DataOk)
    (hb : flag s.p .b = false ∧ flag s.p .u = true) : (endCycle cycles s).Inv := by
  rw [State.inv_iff]
  unfold endCycle
  split
  · have hn : Params.ppuCyclesPerCpuCycle * cycles ≤ Params.cyclesPerScanline := by
      simp only [Params.ppuCyclesPerCpuCycle, Params.cyclesPerScanline]
      omega
    have ticked : (tickPpu cycles s).DataOk := { h with ppu := h.ppu.tick hn }
    exact ⟨ticked.pollNmi, pollNmi_break hb, fun _ => pollNmi_nmiLatch _⟩
  · next hrun => exact ⟨h, hb, fun e => absurd e hrun⟩

/-- Settles O8: a fetch, an instruction and the end of the cycle each keep their part of the invariant; a stopped fetch
leaves `run` other than Running. -/
theorem stepKeepsTheInvariant : Obligations.StepKeepsTheInvariant := by
  unfold Obligations.StepKeepsTheInvariant
  intro s t hs h
  obtain ⟨data, live, -⟩ := (State.inv_iff s).1 hs
  have fetched (r : Ppu) (hr : AfterReads s.ppu r) (pc : Word) :
      (((s.setFrameComplete false).setPpu r).setPc pc).DataOk := { data.setPpu (data.ppu.reads hr) with }
  obtain ⟨-, ⟨cycles, i, r, u, hr, ⟨-, hc⟩, hexec, rfl⟩ | ⟨run, r, pc, rfl, hr, hrun⟩⟩ := step_cases h
  · exact inv_endCycle hc ((fetched r hr _).exec hexec) (exec_break hexec live)
  · have ended : run ≠ .running := by
      obtain ⟨op, rfl⟩ | ⟨k, rfl, -⟩ := hrun <;> simp
    exact (State.inv_iff _).2 ⟨{ fetched r hr pc with }, live, fun e => absurd e ended⟩

end Sys2Proof.Machine

/-! ## The state: the report, the stack and the run (10_state.md R19, R20, R41 to R44) -/

namespace Sys2Proof.Machine

open Sys2Proof.Statements

/-! ### The report of rejected writes -/

/-- The record after one more rejected write: the count rises, the first violation stays (R20). -/
def Report.record (r : Report) (x : Violation) : Report := ⟨r.count + 1, some (r.first.getD x)⟩

theorem rejectWrite_eq (space : RomSpace) (addr : Word) (v : Byte) (s : State) :
    rejectWrite space addr v s = s.setReport (s.report.record ⟨space, addr, v⟩) := by
  unfold rejectWrite Report.record
  cases s.report.first <;> rfl

/-- Settles O12: program ROM by the bus router, character ROM by the data port's first cell. -/
theorem rejectedWritesAreRecorded : Obligations.RejectedWritesAreRecorded := by
  unfold Obligations.RejectedWritesAreRecorded
  constructor
  · intro a v s ha
    obtain ⟨h, -⟩ | ⟨-, h, -⟩ | ⟨-, h, -⟩ | ⟨-, e⟩ := busWrite_cases a v s
    · omega
    · omega
    · omega
    · rw [e, rejectWrite_eq]; rfl
  · intro v s hs
    have cell : ppuCell s.cart.mirroring s.ppu.addr = .chr s.ppu.addr := by rw [ppuCell, if_pos hs]
    rw [portWrite, dataWrite, cell]
    dsimp only
    rw [rejectWrite_eq]
    rfl

/-- From `r` to `r'` at most one rejected write is recorded. -/
def Report.AtMostOne (r r' : Report) : Prop := r' = r ∨ ∃ x, r' = r.record x

theorem WriteEffect.report {ea : Word} {v : Byte} {s t : State} (h : WriteEffect ea v s t) :
    s.report.AtMostOne t.report := by
  cases h with
  | chr hea => exact .inr ⟨_, by rw [State.setPpu_report, rejectWrite_eq, State.setReport_report]⟩
  | rom hea => exact .inr ⟨_, by rw [rejectWrite_eq, State.setReport_report]⟩
  | _ => exact .inl rfl

theorem StoppedFrom.report {s t : State} (h : StoppedFrom s t) : t.report = s.report := by
  obtain ⟨k, q, rfl, -⟩ := h
  rfl

theorem exec_report {i : Instr} {s t : State} (h : exec i s = .next t) : s.report.AtMostOne t.report := by
  cases exec_effect h with
  | reads q r hq hr ht => exact .inl ht.report
  | halt hm ht => exact .inl (by rw [ht, State.setRun_report])
  | push hm v ht => exact .inl ht.report
  | push2 hm v w ht => exact .inl ht.report
  | store hm hd v u hu ht => exact ht.report.symm ▸ hu.report
  | modify hm hd b v q u hb hq hu ht => exact ht.report.symm ▸ hu.report
  | stop q hq ht => exact .inl ht.report

@[simp] theorem pollNmi_report (s : State) : (pollNmi s).report = s.report := by
  obtain ⟨-, e⟩ | ⟨-, e⟩ := pollNmi_cases s <;> rw [e]

@[simp] theorem tickPpu_report (cycles : Nat) (s : State) : (tickPpu cycles s).report = s.report := rfl

@[simp] theorem endCycle_report (cycles : Nat) (s : State) : (endCycle cycles s).report = s.report := by
  unfold endCycle
  split <;> simp

theorem step_report {s t : State} (h : step s = .next t) : s.report.AtMostOne t.report := by
  obtain ⟨-, ⟨cycles, i, r, u, -, -, hexec, rfl⟩ | ⟨run, r, pc, rfl, -⟩⟩ := step_cases h
  · have hreport := exec_report hexec
    rwa [endCycle_report]
  · exact .inl rfl

/-- Settles O13: an instruction makes at most one store that can be rejected, and the rest of a step makes none. -/
theorem stepRecordsAtMostOneRejectedWrite : Obligations.StepRecordsAtMostOneRejectedWrite := by
  unfold Obligations.StepRecordsAtMostOneRejectedWrite
  intro s t h
  obtain e | ⟨x, e⟩ := step_report h <;> rw [e]
  · simp
  · refine ⟨Nat.le_succ _, le_rfl, fun hfirst => ?_⟩
    obtain ⟨y, hy⟩ := Option.ne_none_iff_exists'.1 hfirst
    simp [Report.record, hy]

/-! ### The stack -/

theorem stackIndex_inj {a b : Byte} : stackIndex a = stackIndex b ↔ a = b := by
  simp only [stackIndex, Nat.add_left_cancel_iff, BitVec.toNat_inj]

theorem pop8_stackIndex (s : State) :
    pop8 s = .ok (s.ram.read (stackIndex (s.sp + 1#8))) (s.setSp (s.sp + 1#8)) := pop8_eq s

theorem pop16_stackIndex (s : State) :
    pop16 s = .ok (cat (s.ram.read (stackIndex (s.sp + 2#8))) (s.ram.read (stackIndex (s.sp + 1#8))))
      (s.setSp (s.sp + 2#8)) := pop16_eq s

/-- A word lies with its high byte at the cell the popped `SP` points at and its low byte one below (R44). -/
theorem pop16_of_cells {w : Word} {sp : Byte} {t : State} (hsp : t.sp = sp - 2#8)
    (hhi : t.ram.read (stackIndex sp) = hi w) (hlo : t.ram.read (stackIndex (sp - 1#8)) = lo w) :
    pop16 t = .ok w (t.setSp sp) := by
  have first : t.sp + 1#8 = sp - 1#8 := by rw [hsp]; bv_omega
  have second : t.sp + 2#8 = sp := by rw [hsp]; bv_omega
  rw [pop16_stackIndex, first, second, hhi, hlo, cat_hi_lo]

/-- Settles O14: the two cells differ, so each holds the byte pushed to it. -/
theorem pushAndPopAWord : Obligations.PushAndPopAWord := by
  unfold Obligations.PushAndPopAWord
  intro w s
  have apart : stackIndex s.sp ≠ stackIndex (s.sp - 1#8) := by
    rw [Ne, stackIndex_inj]
    bv_omega
  have high : ((s.ram.write (stackIndex s.sp) (hi w)).write (stackIndex (s.sp - 1#8)) (lo w)).read (stackIndex s.sp) =
      hi w :=
    (Memory.read_write_other _ _ apart).trans (Memory.read_write_same _ _ _)
  have low := Memory.read_write_same (s.ram.write (stackIndex s.sp) (hi w)) (stackIndex (s.sp - 1#8)) (lo w)
  refine ⟨_, push16_eq w s, rfl, high, low, fun k hk hk' => ?_, pop16_of_cells rfl high low⟩
  exact (Memory.read_write_other _ _ hk').trans (Memory.read_write_other _ _ hk)

/-- Bytes pushed leave alone the cells they do not reach: `n` bytes reach the `n` cells from `SP` down. -/
theorem pushAll_frame (vs : List Byte) (s : State) :
    ∃ t, pushAll vs s = .ok () t ∧
      ∀ c : Byte, vs.length ≤ (s.sp - c).toNat → t.ram.read (stackIndex c) = s.ram.read (stackIndex c) := by
  induction vs generalizing s with
  | nil => exact ⟨s, rfl, fun _ _ => rfl⟩
  | cons v vs ih =>
    obtain ⟨t, ht, frame⟩ := ih ((s.setRam (s.ram.write (stackIndex s.sp) v)).setSp (s.sp - 1#8))
    refine ⟨t, by rw [pushAll, push8_eq]; exact ht, fun c hc => ?_⟩
    rw [List.length_cons] at hc
    have below : vs.length ≤ (s.sp - 1#8 - c).toNat := by bv_omega
    have other : stackIndex c ≠ stackIndex s.sp := by
      rw [Ne, stackIndex_inj]
      rintro rfl
      simp at hc
    exact (frame c below).trans (Memory.read_write_other _ _ other)

theorem Access.andThen_assoc {α β γ : Type} (r : Access α) (f : α → State → Access β) (g : β → State → Access γ) :
    (r.andThen f).andThen g = r.andThen fun v s => (f v s).andThen g := by
  cases r <;> rfl

/-- One byte more popped is popped last. -/
theorem popMany_succ (n : Nat) (s : State) :
    popMany (n + 1) s = (popMany n s).andThen fun vs u => (pop8 u).andThen fun v w => .ok (vs ++ [v]) w := by
  induction n generalizing s with
  | zero => rfl
  | succ n ih =>
    rw [popMany, popMany]
    simp only [ih, Access.andThen_assoc, Access.ok_andThen, List.cons_append]

/-- The bytes a push left are popped in reverse order, `SP` as it was. -/
theorem popMany_of_pushAll {vs : List Byte} {s t : State} (hlen : vs.length ≤ 256) (h : pushAll vs s = .ok () t) :
    popMany vs.length t = .ok vs.reverse (t.setSp s.sp) := by
  induction vs generalizing s with
  | nil => cases h; rfl
  | cons v vs ih =>
    rw [List.length_cons] at hlen
    rw [pushAll, push8_eq, Access.ok_andThen] at h
    have kept : t.ram.read (stackIndex s.sp) = v := by
      obtain ⟨u, hu, frame⟩ := pushAll_frame vs ((s.setRam (s.ram.write (stackIndex s.sp) v)).setSp (s.sp - 1#8))
      cases hu.symm.trans h
      have room : vs.length ≤ (s.sp - 1#8 - s.sp).toNat := by bv_omega
      exact (frame s.sp room).trans (Memory.read_write_same _ _ _)
    rw [List.length_cons, popMany_succ, ih (by omega) h, Access.ok_andThen, pop8_stackIndex, Access.ok_andThen]
    simp only [State.setSp_sp, State.setSp_ram, BitVec.sub_add_cancel, kept, List.reverse_cons]
    rfl

/-- Settles O15: one byte by the equations of push and pop, a list by induction on it. -/
theorem stackIsLastInFirstOut : Obligations.StackIsLastInFirstOut := by
  unfold Obligations.StackIsLastInFirstOut
  refine ⟨fun v s => ⟨push8_eq v s, pop8_eq s⟩, fun vs s hlen => ?_⟩
  obtain ⟨t, ht, -⟩ := pushAll_frame vs s
  exact ⟨t, ht, popMany_of_pushAll hlen ht⟩

end Sys2Proof.Machine

/-! ## The state: the end of a run (10_state.md R19; 35_instruction_cycle.md R121, R129) -/

namespace Sys2Proof.Machine

open Sys2Proof.Statements

/-! ### Operand bytes are never read from the data port -/

/-- The addresses of the PPU's data port, the one port whose read can stop (R271, R296). -/
def dataPort (a : Word) : Prop := 0x2000 ≤ a.toNat ∧ a.toNat ≤ 0x3FFF ∧ a.toNat % 8 = 7

theorem portRead_ok {port : Nat} (h : port ≠ 7) (s : State) : ∃ v t, portRead port s = .ok v t := by
  unfold portRead
  split
  · exact ⟨_, _, rfl⟩
  · exact ⟨_, _, rfl⟩
  · exact absurd rfl h
  · exact ⟨_, _, rfl⟩

/-- A read outside the data port never stops. -/
theorem busRead_ok_of_not_dataPort {a : Word} (h : ¬ dataPort a) (s : State) : ∃ v t, busRead a s = .ok v t := by
  by_cases hp : 0x2000 ≤ a.toNat ∧ a.toNat ≤ 0x3FFF
  · obtain ⟨hlo, hhi⟩ := hp
    have hport : portOf a ≠ 7 := by
      rw [portOf_eq hlo hhi]
      exact fun h7 => h ⟨hlo, hhi, h7⟩
    rw [busRead, if_neg (by omega), if_pos hhi]
    exact portRead_ok hport s
  · obtain ⟨v, e⟩ := busRead_off_ports s (a := a) (by omega)
    exact ⟨v, s, e⟩

theorem fetchBytes_ok {n : Nat} {a : Word} (h : ∀ k < n, ¬ dataPort (a + BitVec.ofNat 16 k)) (s : State) :
    ∃ bs t, fetchBytes n a s = .ok bs t := by
  induction n generalizing a s with
  | zero => exact ⟨[], s, rfl⟩
  | succ n ih =>
    obtain ⟨v, t, e⟩ := busRead_ok_of_not_dataPort (by simpa using h 0 (Nat.succ_pos n)) s
    have rest (k : Nat) (hk : k < n) : ¬ dataPort (a + 1#16 + BitVec.ofNat 16 k) := by
      have hnext := h (k + 1) (Nat.succ_lt_succ hk)
      rwa [BitVec.add_assoc, ← BitVec.ofNat_add, Nat.add_comm 1 k]
    obtain ⟨bs, u, e'⟩ := ih rest t
    exact ⟨v :: bs, u, by rw [fetchBytes, e, Access.ok_andThen, e', Access.ok_andThen]⟩

/-- The two bytes before the data port are ports 5 and 6, which read as 0x00 (R287). -/
theorem opcode_before_dataPort {a : Word} {k : Nat} {s t : State} {op : Byte} (hk : k < 2)
    (h : dataPort (a + 1#16 + BitVec.ofNat 16 k)) (hop : busRead a s = .ok op t) : op = 0x00#8 := by
  have window : 0x2000 ≤ a.toNat ∧ a.toNat ≤ 0x3FFF ∧ (a.toNat % 8 = 5 ∨ a.toNat % 8 = 6) := by
    unfold dataPort at h
    obtain rfl | rfl : k = 0 ∨ k = 1 := by omega
    · bv_omega
    · bv_omega
  obtain ⟨hlo, hhi, hport⟩ := window
  rw [busRead, if_neg (by omega), if_pos hhi, portOf_eq hlo hhi] at hop
  obtain e | e := hport <;> rw [e] at hop <;> cases hop <;> rfl

theorem operandBytes_le_two (f : Format) : f.operandBytes ≤ 2 := by
  cases f <;> decide

/-- No read of an operand byte stops: before the data port stands BRK, which has no operand (R106). -/
theorem operand_fetch_ok {s u : State} {a : Word} {op : Byte} {d : Descriptor} (hop : busRead a s = .ok op u)
    (hd : optable op = some d) (t : State) : ∃ bs w, fetchBytes d.format.operandBytes (a + 1#16) t = .ok bs w := by
  refine fetchBytes_ok (fun k hk hport => ?_) t
  have hk2 : k < 2 := hk.trans_le (operandBytes_le_two _)
  rw [opcode_before_dataPort hk2 hport hop] at hd
  cases hd
  exact absurd hk (Nat.not_lt_zero k)

/-! ### A step while `run` is Running -/

theorem step_of_fetch_stop {s t : State} (hrun : s.run = .running)
    (h : fetchInstr (s.setFrameComplete false) = .stop t) : step s = .next t := by
  rw [step, runCycle, if_pos hrun, h]

theorem step_of_fetch_ok {s t u : State} {d : Descriptor} {i : Instr} (hrun : s.run = .running)
    (h : fetchInstr (s.setFrameComplete false) = .ok (d, i) t) (hexec : exec i t = .next u) :
    step s = .next (endCycle d.cycles u) := by
  rw [step, runCycle, if_pos hrun, h]
  dsimp only
  rw [hexec]

theorem step_next {s : State} (hrun : s.run = .running) : ∃ t, step s = .next t := by
  cases h : fetchInstr (s.setFrameComplete false) with
  | stop t => exact ⟨t, step_of_fetch_stop hrun h⟩
  | ok x t =>
    obtain ⟨u, hu⟩ := exec_next x.2 t
    exact ⟨_, step_of_fetch_ok hrun h hu⟩

theorem step_notRunning {s : State} (hrun : s.run ≠ .running) : step s = .fault (.notRunning s.run) := by
  rw [step, runCycle, if_neg hrun]

theorem optable_of_unknown {op : Byte} (h : op ∈ unknownOpcodes) : optable op = none := by
  have all : ∀ op ∈ unknownOpcodes, optable op = none := by decide
  exact all op h

theorem fetchInstr_of_unknown {s t : State} {op : Byte} (h : busRead s.pc s = .ok op t) (hop : op ∈ unknownOpcodes) :
    fetchInstr s = .stop (t.setRun (.unknownOpcode op s.pc)) := by
  rw [fetchInstr, h, Access.ok_andThen, optable_of_unknown hop]
  rfl

theorem fetchInstr_of_stop {s t : State} (h : busRead s.pc s = .stop t) : fetchInstr s = .stop t := by
  rw [fetchInstr, h, Access.stop_andThen]

/-- Settles O58: a step's fetch and instruction always answer, and the two stops of the opcode's read are the step's. -/
theorem stepsExistWhileRunningAndUnknownOpcodesEndTheRun :
    Obligations.StepsExistWhileRunningAndUnknownOpcodesEndTheRun := by
  unfold Obligations.StepsExistWhileRunningAndUnknownOpcodesEndTheRun
  refine ⟨fun s => step_next, fun s => step_notRunning, fun s t op hrun hb hop => ?_, fun s t hrun hb => ?_,
    fun s u op d hb hd => operand_fetch_ok hb hd _⟩
  · exact step_of_fetch_stop hrun (fetchInstr_of_unknown hb hop)
  · exact step_of_fetch_stop hrun (fetchInstr_of_stop hb)

/-! ### Runs -/

theorem runFor_succ {n : Nat} {s u : State} (hrun : s.run = .running) (h : step s = .next u) :
    runFor (n + 1) s = runFor n u := by
  rw [runFor, if_pos hrun, h]

theorem runFor_notRunning (n : Nat) {s : State} (hrun : s.run ≠ .running) : runFor n s = .next s := by
  cases n with
  | zero => rfl
  | succ n => rw [runFor, if_neg hrun]

theorem runFor_next (n : Nat) (s : State) : ∃ t, runFor n s = .next t := by
  induction n generalizing s with
  | zero => exact ⟨s, rfl⟩
  | succ n ih =>
    by_cases hrun : s.run = .running
    · obtain ⟨u, hu⟩ := step_next hrun
      rw [runFor_succ hrun hu]
      exact ih u
    · exact ⟨s, runFor_notRunning _ hrun⟩

/-- A run of `n + k` steps is a run of `k` steps from where a run of `n` ends. -/
theorem runFor_add {n : Nat} (k : Nat) {s t : State} (h : runFor n s = .next t) : runFor (n + k) s = runFor k t := by
  induction n generalizing s with
  | zero =>
    cases h
    rw [Nat.zero_add]
  | succ n ih =>
    by_cases hrun : s.run = .running
    · obtain ⟨u, hu⟩ := step_next hrun
      rw [runFor_succ hrun hu] at h
      rw [Nat.add_right_comm, runFor_succ hrun hu, ih h]
    · rw [runFor_notRunning _ hrun] at h ⊢
      cases h
      rw [runFor_notRunning _ hrun]

/-- Settles O60: a longer run goes on from where a shorter one ended, and from an ended run it stays there. -/
theorem runEndsInTheFirstStateThatIsNotRunning : Obligations.RunEndsInTheFirstStateThatIsNotRunning := by
  unfold Obligations.RunEndsInTheFirstStateThatIsNotRunning
  refine ⟨fun s => rfl, fun n s u => runFor_succ, fun n s => runFor_notRunning n, runFor_next,
    fun n m s t h => ⟨fun hend hle => ?_, fun hrun hle => ?_⟩⟩
  · obtain ⟨k, rfl⟩ := Nat.exists_eq_add_of_le hle
    rw [runFor_add k h, runFor_notRunning k hend]
  · obtain ⟨k, rfl⟩ := Nat.exists_eq_add_of_le hle
    obtain ⟨u, hu⟩ := runFor_next m s
    refine ⟨u, hu, ?_⟩
    by_contra hend
    rw [runFor_add k hu, runFor_notRunning k hend] at h
    cases h
    exact hend hrun

end Sys2Proof.Machine

/-! ## The bus: the five windows (20_memory.md R53 to R56; 50_ppu.md R270, R287, R288) -/

namespace Sys2Proof.Machine

/-! ### The RAM window -/

theorem ramIndex_inj {a b : Word} : ramIndex a = ramIndex b ↔ a &&& 0x07FF#16 = b &&& 0x07FF#16 := BitVec.toNat_inj

/-- Two addresses of the RAM window that name one cell read alike. -/
theorem busRead_mirror {a b : Word} (s : State) (ha : a.toNat ≤ 0x1FFF) (hb : b.toNat ≤ 0x1FFF)
    (h : a.toNat % 0x800 = b.toNat % 0x800) : busRead a s = busRead b s := by
  rw [busRead_ram s ha, busRead_ram s hb, ramIndex_eq, ramIndex_eq, h]

/-- Settles O10: a RAM access is one of the cell `ramIndex` names, and the mirrors differ by multiples of 0x0800. -/
theorem ramWindowIsMirrored : Obligations.RamWindowIsMirrored := by
  unfold Obligations.RamWindowIsMirrored
  constructor
  · intro a b v s ha hb
    refine ⟨_, busWrite_ram v s ha, rfl, ?_, busRead_ram s hb⟩
    rw [busRead_ram _ hb, State.setRam_ram, Memory.read_write, if_congr ramIndex_inj rfl rfl, ramIndex]
  · intro a s ha
    have mirror (d : Word) (hd : d.toNat ≤ 0x1800) (h8 : d.toNat % 0x800 = 0) : busRead (a + d) s = busRead a s := by
      have sum : (a + d).toNat = a.toNat + d.toNat := BitVec.toNat_add_of_lt (by omega)
      exact busRead_mirror s (by omega) (by omega) (by omega)
    exact ⟨mirror _ (by decide) (by decide), mirror _ (by decide) (by decide), mirror _ (by decide) (by decide)⟩

/-! ### The port window, program ROM and the unmapped range -/

theorem and7_toNat (a : Word) : (a &&& 7#16).toNat = a.toNat % 8 := by
  rw [BitVec.toNat_and]
  exact Nat.and_two_pow_sub_one_eq_mod _ 3

theorem portOf_eq_and {a : Word} (hlo : 0x2000 ≤ a.toNat) (hhi : a.toNat ≤ 0x3FFF) : portOf a = (a &&& 7#16).toNat := by
  rw [portOf_eq hlo hhi, and7_toNat]

theorem busRead_port {a : Word} (s : State) (hlo : 0x2000 ≤ a.toNat) (hhi : a.toNat ≤ 0x3FFF) :
    busRead a s = portRead (portOf a) s := by
  rw [busRead, if_neg (by omega), if_pos hhi]

theorem busWrite_port {a : Word} (v : Byte) (s : State) (hlo : 0x2000 ≤ a.toNat) (hhi : a.toNat ≤ 0x3FFF) :
    busWrite a v s = portWrite (portOf a) v s := by
  rw [busWrite, if_neg (by omega), if_pos hhi]

theorem busRead_unmapped {a : Word} (s : State) (hlo : 0x4000 ≤ a.toNat) (hhi : a.toNat ≤ 0x7FFF) :
    busRead a s = .ok 0x00#8 s := by
  rw [busRead, if_neg (by omega), if_neg (by omega), if_neg (by omega)]

theorem busWrite_unmapped {a : Word} (v : Byte) (s : State) (hlo : 0x4000 ≤ a.toNat) (hhi : a.toNat ≤ 0x7FFF) :
    busWrite a v s = .ok () s := by
  rw [busWrite, if_neg (by omega), if_neg (by omega), if_neg (by omega)]

/-- R55: the image index is the offset in the window modulo the image's length. -/
theorem prgIndex_eq_mod (c : Cartridge) (a : Word) : c.prgIndex a = (a.toNat - 0x8000) % c.prgSize.bytes := by
  have := a.isLt
  rw [Cartridge.prgIndex]
  cases c.prgSize <;> simp only [PrgSize.bytes, reduceCtorEq, true_and, false_and, if_false]
  · split <;> omega
  · omega

/-- R287: the five write-only ports. -/
theorem portRead_writeOnly {port : Nat} (s : State) (h : port ∈ [0, 1, 3, 5, 6]) : portRead port s = .ok 0x00#8 s := by
  unfold portRead
  split
  · exact absurd h (by decide)
  · exact absurd h (by decide)
  · exact absurd h (by decide)
  · rfl

/-- Settles O11: each window of the bus router by its own equation, the write-only ports by the last arm of a read. -/
theorem portRomAndUnmappedWindows : Obligations.PortRomAndUnmappedWindows := by
  unfold Obligations.PortRomAndUnmappedWindows
  refine ⟨fun a v s hlo hhi => ?_, fun a s ha => ?_, fun a v s hlo hhi => ?_, fun v s => ?_⟩
  · rw [← portOf_eq_and hlo hhi]
    exact ⟨busRead_port s hlo hhi, busWrite_port v s hlo hhi⟩
  · rw [busRead_rom s ha, Cartridge.prgRead, prgIndex_eq_mod]
  · exact ⟨busRead_unmapped s hlo hhi, busWrite_unmapped v s hlo hhi⟩
  · exact ⟨fun port => portRead_writeOnly s, rfl⟩

end Sys2Proof.Machine

/-! ## The bus: what an instruction changes of the PPU and of the report (20_memory.md R57, R61, R70) -/

namespace Sys2Proof.Machine

open Sys2Proof.Statements

/-! ### An instruction makes reads, and at most one store to its effective address -/

theorem samePpu_refl (q : Ppu) : SamePpuApartFromPortReads q q :=
  ⟨rfl, rfl, rfl, rfl, rfl, rfl, rfl, rfl, rfl, rfl, rfl⟩

theorem samePpu_trans {q r u : Ppu} (hqr : SamePpuApartFromPortReads q r)
    (hru : SamePpuApartFromPortReads r u) : SamePpuApartFromPortReads q u := by
  simp_all [SamePpuApartFromPortReads]

theorem samePpu_counters {q r : Ppu} (h : SamePpuApartFromPortReads q r) :
    r.scanLine = q.scanLine ∧ r.cycleCounter = q.cycleCounter := by
  obtain ⟨-, -, -, -, -, hscan, hcycle, -⟩ := h
  exact ⟨hscan, hcycle⟩

theorem ReadEffect.samePpu {q r : Ppu} (h : ReadEffect q r) : SamePpuApartFromPortReads q r := by
  obtain rfl | rfl | ⟨b, rfl⟩ := h <;> exact samePpu_refl _

theorem StoppedFrom.samePpu {s t : State} (h : StoppedFrom s t) : SamePpuApartFromPortReads s.ppu t.ppu := by
  obtain ⟨k, q, rfl, rfl | rfl, -⟩ := h <;> exact samePpu_refl s.ppu

theorem storeTarget_direct {i : Instr} (s : State) (hm : i.mnemonic ∈ storing ∨ i.mnemonic ∈ modifying)
    (hd : direct i.operand) : storeTarget i s = some (effective i.operand s) := by
  rw [storeTarget, if_pos hm, resolve_direct s hd]

/-- `t` is `s` after one write to the store target of `i` at the PPU `q`, which reads of `s` alone may have changed. -/
structure StoredBy (i : Instr) (s t : State) (ea : Word) : Prop where
  target : storeTarget i s = some ea
  write : ∃ v q u, SamePpuApartFromPortReads s.ppu q ∧ WriteEffect ea v (s.setPpu q) u ∧ t.ppu = u.ppu ∧
    t.report = u.report

/-- R61, R62: an instruction reaches the PPU and the report by its reads, and by one write to its store target. -/
theorem exec_reads_or_stores {i : Instr} {s t : State} (h : exec i s = .next t) :
    (SamePpuApartFromPortReads s.ppu t.ppu ∧ t.report = s.report) ∨ ∃ ea, StoredBy i s t ea := by
  cases exec_effect h with
  | reads q r hq hr ht => exact .inl ⟨ht.ppu.symm ▸ samePpu_trans hq.samePpu hr.samePpu, ht.report⟩
  | halt hm ht => subst ht; exact .inl ⟨samePpu_refl s.ppu, rfl⟩
  | push hm v ht => exact .inl ⟨ht.ppu.symm ▸ samePpu_refl s.ppu, ht.report⟩
  | push2 hm v w ht => exact .inl ⟨ht.ppu.symm ▸ samePpu_refl s.ppu, ht.report⟩
  | store hm hd v u hu ht =>
    exact .inr ⟨_, storeTarget_direct s (.inl hm) hd, v, s.ppu, u, samePpu_refl s.ppu, hu, ht.ppu, ht.report⟩
  | modify hm hd b v q u hb hq hu ht =>
    exact .inr ⟨_, storeTarget_direct s (.inr hm) hd, v, q, u, hq.samePpu, hu, ht.ppu, ht.report⟩
  | stop q hq ht => exact .inl ⟨samePpu_trans hq.samePpu ht.samePpu, ht.report⟩

/-! ### What the store does -/

theorem WriteEffect.ppu_of_off_ports {ea : Word} {v : Byte} {s t : State} (h : WriteEffect ea v s t)
    (hea : ¬ (0x2000 ≤ ea.toNat ∧ ea.toNat ≤ 0x3FFF)) : t.ppu = s.ppu := by
  cases h with
  | ram | none | rom => rfl
  | port q hp => exact absurd hp hea
  | oam hp | vram _ hp | palette _ hp | chr hp => omega

theorem WriteEffect.report_of_not_rejected {ea : Word} {v : Byte} {s t : State} (h : WriteEffect ea v s t)
    (hrom : ea.toNat < 0x8000) (hchr : ¬ (0x2000 ≤ ea.toNat ∧ ea.toNat ≤ 0x3FFF ∧ ea.toNat % 8 = 7)) :
    t.report = s.report := by
  cases h with
  | chr hp => exact absurd hp hchr
  | rom hp => omega
  | _ => rfl

/-- No port write moves the counters: only the tick does (R127). -/
theorem WriteEffect.counters {ea : Word} {v : Byte} {s t : State} (h : WriteEffect ea v s t) :
    t.ppu.scanLine = s.ppu.scanLine ∧ t.ppu.cycleCounter = s.ppu.cycleCounter := by
  cases h with
  | port q hp hq =>
    obtain rfl | rfl | rfl | rfl | rfl := hq
    · exact ⟨rfl, rfl⟩
    · exact ⟨rfl, rfl⟩
    · exact ⟨rfl, rfl⟩
    · rw [scrollWrite]
      cases s.ppu.scrollLatch <;> exact ⟨rfl, rfl⟩
    · rw [addrWrite]
      cases s.ppu.addrLatch <;> exact ⟨rfl, rfl⟩
  | _ => exact ⟨rfl, rfl⟩

theorem portStored_eq {i : Instr} {s : State} {ea : Word} (h : storeTarget i s = some ea) :
    portStored i s = if 0x2000 ≤ ea.toNat ∧ ea.toNat ≤ 0x3FFF then some (ea.toNat % 8) else none := by
  rw [portStored, h, ← and7_toNat]

theorem exec_samePpu {i : Instr} {s t : State} (h : exec i s = .next t) (hp : portStored i s = none) :
    SamePpuApartFromPortReads s.ppu t.ppu := by
  obtain ⟨hsame, -⟩ | ⟨ea, htarget, v, q, u, hq, hu, hppu, -⟩ := exec_reads_or_stores h
  · exact hsame
  · rw [portStored_eq htarget, ite_eq_right_iff] at hp
    rw [hppu, hu.ppu_of_off_ports fun hwin => nomatch hp hwin]
    exact hq

theorem exec_report_eq {i : Instr} {s t : State} (h : exec i s = .next t)
    (hrom : ∀ ea, storeTarget i s = some ea → ea.toNat < 0x8000) (hchr : portStored i s ≠ some 7) :
    t.report = s.report := by
  obtain ⟨-, hreport⟩ | ⟨ea, htarget, v, q, u, -, hu, -, hreport⟩ := exec_reads_or_stores h
  · exact hreport
  · rw [hreport]
    refine hu.report_of_not_rejected (hrom ea htarget) fun ⟨hlo, hhi, h7⟩ => hchr ?_
    rw [portStored_eq htarget, if_pos ⟨hlo, hhi⟩, h7]

theorem exec_counters {i : Instr} {s t : State} (h : exec i s = .next t) :
    t.ppu.scanLine = s.ppu.scanLine ∧ t.ppu.cycleCounter = s.ppu.cycleCounter := by
  obtain ⟨hsame, -⟩ | ⟨ea, -, v, q, u, hq, hu, hppu, -⟩ := exec_reads_or_stores h
  · exact samePpu_counters hsame
  · obtain ⟨hscan, hcycle⟩ := hu.counters
    obtain ⟨qscan, qcycle⟩ := samePpu_counters hq
    rw [hppu]
    exact ⟨hscan.trans qscan, hcycle.trans qcycle⟩

/-! ### With no data address in the port window -/

/-- The CPU addresses outside the port window (R51). -/
def offPorts (a : Word) : Prop := a.toNat < 0x2000 ∨ 0x4000 ≤ a.toNat

/-- The operand has no effective address to read, or one outside the port window; the Immediate operand is not read
from its address (R94; log 2). -/
def operandOffPorts (o : Operand) (s : State) : Prop := o.format ≠ .imm → offPorts (effective o s)

theorem readOperand_off_ports {o : Operand} {s : State} (hd : direct o) (hoff : operandOffPorts o s) :
    ∃ v, readOperand o s = .ok v s := by
  by_cases hi : o.format = .imm
  · cases o with
    | imm v => exact ⟨v, rfl⟩
    | _ => cases hi
  · rw [readOperand_eq_busRead s hd hi]
    exact busRead_off_ports s (hoff hi)

theorem readForm_ppu_off_ports {f : Byte → State → State} {o : Operand} {s t : State} (h : readForm f o s = .next t)
    (hd : direct o) (hoff : operandOffPorts o s) (hf : ∀ b u, (f b u).ppu = u.ppu) : t.ppu = s.ppu := by
  obtain ⟨v, hv⟩ := readOperand_off_ports hd hoff
  rw [readForm_eq, hv] at h
  cases h
  exact hf v s

theorem storeForm_ppu_off_ports {value : State → Byte} {o : Operand} {s t : State} (h : storeForm value o s = .next t)
    (hd : direct o) (hoff : offPorts (effective o s)) : t.ppu = s.ppu := by
  obtain ⟨u, hu, hppu⟩ := busWrite_off_ports (value s) s hoff
  rw [storeForm_direct value s hd, hu] at h
  cases h
  exact hppu

theorem modifyForm_ppu_off_ports {α : Type} {core : Byte → State → Byte × α} {after : Byte → α → State → State}
    {o : Operand} {s t : State} (h : modifyForm core after o s = .next t) (hd : direct o)
    (hoff : offPorts (effective o s)) (hf : ∀ b c u, (after b c u).ppu = u.ppu) : t.ppu = s.ppu := by
  obtain ⟨v, hv⟩ := busRead_off_ports s hoff
  obtain ⟨u, hu, hppu⟩ := busWrite_off_ports (core v s).1 s hoff
  simp only [modifyForm_direct core after s hd, hv, hu] at h
  cases h
  exact (hf _ _ u).trans hppu

theorem shiftBy_ppu_off_ports {core : ShiftCore} {o : Operand} {s t : State} (h : shiftBy core o s = .next t)
    (hd : o = .acc ∨ direct o) (hoff : direct o → offPorts (effective o s)) : t.ppu = s.ppu := by
  unfold shiftBy at h
  split at h
  · cases h; rfl
  · next hne =>
    have hd := hd.resolve_left fun e => hne e
    exact modifyForm_ppu_off_ports h hd (hoff hd) fun _ _ _ => rfl

theorem branchIf_ppu {c : Bool} {o : Operand} {s t : State} (h : branchIf c o s = .next t) : t.ppu = s.ppu := by
  unfold branchIf branch at h
  split at h
  · split at h <;> cases h <;> rfl
  · cases h; rfl

/-- The page-wrap of the Indirect mode as R101 states it, by the low byte or by the masked address. -/
theorem lo_eq_ff_iff (w : Word) : lo w = 0xFF#8 ↔ w &&& 0x00FF#16 = 0x00FF#16 := by
  have low : (w &&& 0x00FF#16).toNat = (lo w).toNat := by
    rw [lo_toNat, BitVec.toNat_and]
    exact Nat.and_two_pow_sub_one_eq_mod _ 8
  rw [← BitVec.toNat_inj, ← BitVec.toNat_inj, low]
  rfl

theorem indirectTarget_eq (w : Word) (s : State) :
    indirectTarget w s = (busRead w s).andThen fun l u =>
      (busRead (pointerSecond w) u).andThen fun h u => .ok (cat h l) u := by
  rw [indirectTarget, pointerSecond, if_congr (lo_eq_ff_iff w) rfl rfl]

theorem jmpInd_ppu_off_ports {w : Word} {s t : State} (h : jmpForm (.ind w) s = .next t) (hfirst : offPorts w)
    (hsecond : offPorts (pointerSecond w)) : t.ppu = s.ppu := by
  obtain ⟨l, hl⟩ := busRead_off_ports s hfirst
  obtain ⟨b, hb⟩ := busRead_off_ports s hsecond
  rw [jmpForm, resolve, indirectTarget_eq, hl, Access.ok_andThen, hb, Access.ok_andThen] at h
  cases h
  rfl

theorem dataAddresses_direct {i : Instr} (s : State) (hd : direct i.operand) (hi : i.operand.format ≠ .imm)
    (hm : ¬ (i.mnemonic = .jmp ∨ i.mnemonic = .jsr)) : dataAddresses i s = [effective i.operand s] := by
  have hr := resolve_direct s hd
  unfold dataAddresses
  cases ho : i.operand <;> simp_all [direct, Operand.format]

theorem dataAddresses_ind {i : Instr} {w : Word} (s : State) (ho : i.operand = .ind w) :
    dataAddresses i s = [w, pointerSecond w] := by
  rw [dataAddresses, ho]

theorem format_ne_imm {i : Instr} {m : Mnemonic} (hm : i.mnemonic = m) (h : Format.imm ∉ m.formats) :
    i.operand.format ≠ .imm :=
  fun e => h (hm ▸ e ▸ format_mem i)

/-- R61, R70: an instruction none of whose data addresses is in the port window leaves the PPU as it is. -/
theorem exec_ppu_off_ports {i : Instr} {s t : State} (h : exec i s = .next t)
    (hoff : ∀ a ∈ dataAddresses i s, offPorts a) : t.ppu = s.ppu := by
  have operand (hm : ¬ (i.mnemonic = .jmp ∨ i.mnemonic = .jsr)) (hd : direct i.operand) :
      operandOffPorts i.operand s := fun hi => hoff _ (by simp [dataAddresses_direct s hd hi hm])
  rw [exec_eq] at h
  cases hm : i.mnemonic <;> rw [hm] at h operand
  case lda | ldx | ldy | adc | sbc | and | ora | eor | cmp | cpx | cpy | bit | lax | anc | alr | arr | axs =>
    have hd := direct_of_format hm rfl
    exact readForm_ppu_off_ports h hd (operand (by decide) hd) fun _ _ => rfl
  case sta | stx | sty | sax =>
    have hd := direct_of_format hm rfl
    exact storeForm_ppu_off_ports h hd (operand (by decide) hd (format_ne_imm hm (by decide)))
  case inc | dec | slo | rla | sre | rra | dcp | isb =>
    have hd := direct_of_format hm rfl
    simp only [execAs, incForm, decForm, sloForm, rlaForm, sreForm, rraForm, dcpForm, isbForm] at h
    exact modifyForm_ppu_off_ports h hd (operand (by decide) hd (format_ne_imm hm (by decide))) fun _ _ _ => rfl
  case asl | lsr | rol | ror =>
    exact shiftBy_ppu_off_ports h (acc_or_direct hm rfl) fun hd =>
      operand (by decide) hd (format_ne_imm hm (by decide))
  case tax | tay | txa | tya | tsx | txs | inx | iny | dex | dey | clc | sec | cli | sei | cld | sed | clv | brk =>
    cases h; rfl
  case bcc | bcs | beq | bne | bmi | bpl | bvc | bvs => exact branchIf_ppu h
  case jmp =>
    obtain ⟨w, ho | ho⟩ := jmp_operand hm <;> rw [ho] at h
    · cases h; rfl
    · rw [dataAddresses_ind s ho] at hoff
      exact jmpInd_ppu_off_ports h (hoff _ (by simp)) (hoff _ (by simp))
  case nop =>
    obtain ho | hd := nop_operand hm
    · rw [ho] at h
      cases h; rfl
    · rw [execAs_nop s hd] at h
      exact readForm_ppu_off_ports h hd (operand (by decide) hd) fun _ _ => rfl
  case jsr =>
    obtain ⟨w, ho⟩ := jsr_operand hm
    rw [ho, execAs, execJsr, push16_eq, Access.ok_andThen, Access.ok_jump, Host.Outcome.next.injEq] at h
    subst h
    rfl
  case pha | pla | php | plp | rts | rti =>
    simp only [execAs, execPha, execPla, execPhp, execPlp, execRts, execRti, push8_eq, pop8_eq, pop16_eq,
      returnFromNmi_eq, Access.ok_andThen, Access.ok_advance, Access.ok_jump, Host.Outcome.next.injEq] at h
    subst h
    rfl

/-- Settles O47: the reads and the one store of an instruction, and no port access off the port window. -/
theorem ppuRegistersChangeByPortAccessAlone : Obligations.PpuRegistersChangeByPortAccessAlone := by
  unfold Obligations.PpuRegistersChangeByPortAccessAlone
  exact fun i s t h => ⟨exec_ppu_off_ports h, exec_samePpu h, exec_report_eq h, exec_counters h⟩

end Sys2Proof.Machine

/-! ## The encoding: the decoder and the encoder (30_encoding.md R90 to R92, R106 to R108, R112) -/

namespace Sys2Proof

open Sys2Proof.Machine Sys2Proof.Statements

/-! ### The operand bytes -/

/-- The operand of a format with the bytes `b1` and `b2` after the opcode, an address low byte first (R91); a byte the
format lacks is not looked at. -/
def Format.operandOf (f : Format) (b1 b2 : Byte) : Operand :=
  match f with
  | .imp => .imp
  | .acc => .acc
  | .imm => .imm b1
  | .zp => .zp b1
  | .zpx => .zpx b1
  | .zpy => .zpy b1
  | .rel => .rel b1
  | .izx => .izx b1
  | .izy => .izy b1
  | .abs => .abs (cat b2 b1)
  | .abx => .abx (cat b2 b1)
  | .aby => .aby (cat b2 b1)
  | .ind => .ind (cat b2 b1)

theorem Operand.length_bytes (o : Operand) : o.bytes.length = o.format.operandBytes := by
  cases o <;> rfl

theorem Operand.operandOf_bytes (o : Operand) : o.format.operandOf (o.bytes.getD 0 0#8) (o.bytes.getD 1 0#8) = o := by
  cases o <;> simp [Operand.format, Operand.bytes, Format.operandOf]

theorem Format.bytes_operandOf {f : Format} {ops : List Byte} (h : ops.length = f.operandBytes) :
    (f.operandOf (ops.getD 0 0#8) (ops.getD 1 0#8)).bytes = ops := by
  cases f with
  | imp | acc => exact (List.eq_nil_of_length_eq_zero h).symm
  | imm | zp | zpx | zpy | rel | izx | izy =>
    obtain ⟨b, rfl⟩ := List.length_eq_one_iff.1 h
    rfl
  | abs | abx | aby | ind =>
    obtain ⟨b, c, rfl⟩ := List.length_eq_two.1 h
    simp [Format.operandOf, Operand.bytes]

/-! ### The decoder's choice of constructor -/

/-- Whatever the operand bytes, the constructor chosen has the opcode asked for, and there is one exactly if the opcode
has a descriptor. One evaluation for each of the 256 byte values, which never looks at `b1` and `b2`. -/
theorem instrOf_map_opcode (b1 b2 : Byte) :
    ∀ op, (instrOf op b1 b2).map Instr.opcode = (optable op).map fun _ => op :=
  of_decide_eq_true rfl

/-- At its own opcode an instruction is chosen exactly if its operand is that of the bytes. -/
theorem instrOf_opcode_iff (i : Instr) (b1 b2 : Byte) :
    instrOf i.opcode b1 b2 = some i ↔ i.operand.format.operandOf b1 b2 = i.operand := by
  cases i <;> simp only [Instr.opcode] <;> exact ⟨by rintro ⟨⟩; rfl, by rintro ⟨⟩; rfl⟩

/-- The instruction chosen for an opcode has that opcode and the operand its format reads from the bytes. -/
theorem instrOf_eq_some_iff {op b1 b2 : Byte} {i : Instr} :
    instrOf op b1 b2 = some i ↔ i.opcode = op ∧ i.operand.format.operandOf b1 b2 = i.operand := by
  constructor
  · intro h
    have hop : i.opcode = op := by
      have hmap := instrOf_map_opcode b1 b2 op
      rw [h] at hmap
      obtain ⟨d, -, hd⟩ := Option.map_eq_some_iff.1 hmap.symm
      exact hd.symm
    subst hop
    exact ⟨rfl, (instrOf_opcode_iff i b1 b2).1 h⟩
  · rintro ⟨rfl, h⟩
    exact (instrOf_opcode_iff i b1 b2).2 h

/-! ### Decoding and encoding -/

theorem decoded_eq_ok_iff {op b1 b2 : Byte} {rest rest' : List Byte} {i : Instr} :
    decoded op b1 b2 rest = .ok (i, rest') ↔ instrOf op b1 b2 = some i ∧ rest = rest' := by
  unfold decoded
  cases instrOf op b1 b2 <;> simp

theorem decode_of_unknown {op : Byte} (rest : List Byte) (h : optable op = none) :
    decode (op :: rest) = .error (.unknownOpcode op) := by
  rw [decode, h]

/-- With as many bytes after the opcode as its format has, the decoder chooses by them and leaves the rest (R92). -/
theorem decode_of_operandBytes {op : Byte} {d : Descriptor} {ops : List Byte} (rest : List Byte)
    (hd : optable op = some d) (hlen : ops.length = d.format.operandBytes) :
    decode (op :: (ops ++ rest)) = decoded op (ops.getD 0 0#8) (ops.getD 1 0#8) rest := by
  rw [decode, hd]
  have htwo := operandBytes_le_two d.format
  rw [← hlen] at htwo
  simp only [← hlen]
  match ops, htwo with
  | [], _ => rfl
  | [b1], _ => rfl
  | [b1, b2], _ => rfl

/-- Bytes that decode begin with an opcode that has a descriptor and as many bytes as its format has. -/
theorem exists_operandBytes_of_decode {bs rest : List Byte} {i : Instr} (h : decode bs = .ok (i, rest)) :
    ∃ op d ops, bs = op :: (ops ++ rest) ∧ optable op = some d ∧ ops.length = d.format.operandBytes := by
  unfold decode at h
  split at h
  · cases h
  · next op tail =>
    split at h
    · cases h
    · next d hd =>
      split at h
      · next hn =>
        obtain ⟨-, rfl⟩ := decoded_eq_ok_iff.1 h
        exact ⟨op, d, [], rfl, hd, hn.symm⟩
      · next b1 _ hn =>
        obtain ⟨-, rfl⟩ := decoded_eq_ok_iff.1 h
        exact ⟨op, d, [b1], rfl, hd, hn.symm⟩
      · next b1 b2 _ hn =>
        obtain ⟨-, rfl⟩ := decoded_eq_ok_iff.1 h
        exact ⟨op, d, [b1, b2], rfl, hd, hn.symm⟩
      · cases h

theorem decode_encode_append (i : Instr) (rest : List Byte) : decode (encode i ++ rest) = .ok (i, rest) := by
  obtain ⟨c, hc⟩ := optable_opcode i
  rw [encode, List.cons_append, decode_of_operandBytes rest hc i.operand.length_bytes, decoded_eq_ok_iff,
    instrOf_opcode_iff]
  exact ⟨i.operand.operandOf_bytes, rfl⟩

theorem eq_encode_append_of_decode {bs rest : List Byte} {i : Instr} (h : decode bs = .ok (i, rest)) :
    bs = encode i ++ rest := by
  obtain ⟨op, d, ops, rfl, hd, hlen⟩ := exists_operandBytes_of_decode h
  rw [decode_of_operandBytes rest hd hlen, decoded_eq_ok_iff, instrOf_eq_some_iff] at h
  obtain ⟨⟨rfl, hoperand⟩, -⟩ := h
  obtain ⟨c, hc⟩ := optable_opcode i
  obtain rfl := Option.some.inj (hc.symm.trans hd)
  rw [encode, ← hoperand, Format.bytes_operandOf hlen, List.cons_append]

/-- Settles O2: an instruction's operand bytes are as many as its format has, and give its operand back. -/
theorem decodeGivesBackTheEncodedInstruction : Obligations.DecodeGivesBackTheEncodedInstruction := by
  unfold Obligations.DecodeGivesBackTheEncodedInstruction
  exact decode_encode_append

/-- Settles O3: the bytes split at the format of the opcode, and the constructor chosen has that opcode and operand. -/
theorem decodedBytesAreTheEncoding : Obligations.DecodedBytesAreTheEncoding := by
  unfold Obligations.DecodedBytesAreTheEncoding
  exact fun _ _ _ => eq_encode_append_of_decode

/-! ### The encodings of a mnemonic -/

theorem exists_instrOf {op : Byte} {d : Descriptor} (b1 b2 : Byte) (h : optable op = some d) :
    ∃ i, instrOf op b1 b2 = some i ∧ i.mnemonic = d.mnemonic ∧ i.operand.format = d.format := by
  have hmap := instrOf_map_opcode b1 b2 op
  rw [h] at hmap
  obtain ⟨i, hi, rfl⟩ := Option.map_eq_some_iff.1 hmap
  obtain ⟨c, hc⟩ := optable_opcode i
  obtain rfl := Option.some.inj (hc.symm.trans h)
  exact ⟨i, hi, rfl, rfl⟩

/-- Two bytes after an opcode that has a descriptor are enough: they decode to an instruction of that descriptor. -/
theorem exists_decode {op : Byte} {d : Descriptor} (b1 b2 : Byte) (h : optable op = some d) :
    ∃ i rest, decode [op, b1, b2] = .ok (i, rest) ∧ i.mnemonic = d.mnemonic ∧ i.operand.format = d.format := by
  have hlen : ([b1, b2].take d.format.operandBytes).length = d.format.operandBytes :=
    List.length_take_of_le (operandBytes_le_two d.format)
  rw [← List.take_append_drop d.format.operandBytes [b1, b2], decode_of_operandBytes _ h hlen]
  obtain ⟨i, hi, hd⟩ := exists_instrOf _ _ h
  exact ⟨i, _, decoded_eq_ok_iff.2 ⟨hi, rfl⟩, hd⟩

/-- A mnemonic has the encodings `rows` if they are all of the opcode table's cells with the mnemonic, and no other. -/
theorem encodedAs_of_optable {m : Mnemonic} {rows : List (Byte × Format)}
    (all : ∀ op, ∀ d ∈ optable op, d.mnemonic = m → (op, d.format) ∈ rows)
    (only : ∀ r ∈ rows, ∃ d ∈ optable r.1, d.mnemonic = m ∧ d.format = r.2) : EncodedAs m rows := by
  constructor
  · rintro i rfl
    obtain ⟨c, hc⟩ := optable_opcode i
    exact all _ _ hc rfl
  · intro r hr b1 b2
    obtain ⟨d, hd, rfl, hf⟩ := only r hr
    exact hf ▸ exists_decode b1 b2 hd

/-! ### Worked words, and the descriptors -/

/-- Settles O1: each word is the encoding of its instruction, followed by the byte after it in the case of TAX. -/
theorem exampleWordsDecode : Obligations.ExampleWordsDecode := by
  unfold Obligations.ExampleWordsDecode
  exact ⟨decode_encode_append (.ldaImm _) [], decode_encode_append .tax [0xE8#8], decode_encode_append (.ldxImm _) [],
    decode_encode_append (.staZpx _) [], decode_encode_append (.oraIzy _) [], decode_encode_append (.dcpZp _) [],
    decode_encode_append (.jmpInd 0x02FF#16) [], decode_encode_append (.jsr 0x8010#16) [],
    decode_encode_append (.rolAbs 0x0300#16) [], decode_encode_append .brk [], decode_encode_append .pha []⟩

theorem cycles_eq_cycleCount : ∀ op, ∀ d ∈ optable op, d.cycles = cycleCount op := by decide

theorem optable_eq_none_iff : ∀ op, optable op = none ↔ op ∈ unknownOpcodes := by decide

/-- Settles O4: an instruction's descriptor is the table's at its opcode; the cycle counts and the unknown opcodes are
read off the table, one evaluation for each of the 256 byte values. -/
theorem descriptorsAndUnknownOpcodes : Obligations.DescriptorsAndUnknownOpcodes := by
  unfold Obligations.DescriptorsAndUnknownOpcodes
  refine ⟨fun i => ?_, fun op rest => ⟨optable_eq_none_iff op, fun h => ?_⟩⟩
  · obtain ⟨c, hc⟩ := optable_opcode i
    exact ⟨_, hc, rfl, rfl, encode_length i, cycles_eq_cycleCount _ _ hc, cycles_bounds hc⟩
  · exact decode_of_unknown rest (optable_of_unknown h)

end Sys2Proof

/-! ## The encoding: effective addresses (30_encoding.md R94 to R104; 35_instruction_cycle.md R124) -/

namespace Sys2Proof.Machine

open Sys2Proof.Statements

theorem resolve_ind_ok {w : Word} {s u t : State} {l h : Byte} (hl : busRead w s = .ok l u)
    (hh : busRead (pointerSecond w) u = .ok h t) : resolve (.ind w) s = .ok (cat h l) t := by
  rw [resolve, indirectTarget_eq, hl, Access.ok_andThen, hh, Access.ok_andThen]

theorem resolve_ind_stop_second {w : Word} {s u t : State} {l : Byte} (hl : busRead w s = .ok l u)
    (hh : busRead (pointerSecond w) u = .stop t) : resolve (.ind w) s = .stop t := by
  rw [resolve, indirectTarget_eq, hl, Access.ok_andThen, hh, Access.stop_andThen]

theorem resolve_ind_stop_first {w : Word} {s u : State} (hl : busRead w s = .stop u) :
    resolve (.ind w) s = .stop u := by
  rw [resolve, indirectTarget_eq, hl, Access.stop_andThen]

/-- Settles O24: the two indexed pointers read page zero, which has no side effect; Indirect makes its two reads; the
operand byte is the read that follows. -/
theorem effectiveAddresses : Obligations.EffectiveAddresses := by
  unfold Obligations.EffectiveAddresses
  refine ⟨fun s b w => ?_, fun w s u t l h => ⟨resolve_ind_ok, resolve_ind_stop_second, resolve_ind_stop_first⟩,
    fun v s => rfl, fun o s t hi => ⟨fun ea hr => ?_, fun hr => ?_⟩⟩
  · have izx : direct (.izx b) := by simp [direct, Operand.format]
    have izy : direct (.izy b) := by simp [direct, Operand.format]
    exact ⟨rfl, rfl, rfl, rfl, rfl, rfl, rfl, resolve_direct s izx, resolve_direct s izy, rfl, rfl, rfl⟩
  · rw [readOperand_eq s hi, hr, Access.ok_andThen]
  · rw [readOperand_eq s hi, hr, Access.stop_andThen]

end Sys2Proof.Machine

/-! ## The encoding: jumps and branches (30_encoding.md R101, R105; 43_control_flow.md R191, R192, R196 to R204) -/

namespace Sys2Proof.Machine

open Sys2Proof.Statements

/-! ### JMP -/

theorem exec_jmpInd (a : Word) (s : State) : exec (.jmpInd a) s = (resolve (.ind a) s).jump := rfl

theorem exec_jmpInd_ok {a : Word} {s u t : State} {l h : Byte} (hl : busRead a s = .ok l u)
    (hh : busRead (pointerSecond a) u = .ok h t) : exec (.jmpInd a) s = .next { t with pc := cat h l } := by
  rw [exec_jmpInd, resolve_ind_ok hl hh, Access.ok_jump, State.setPc]

theorem exec_jmpInd_total (a : Word) (s : State) (hm : s.cart.mirroring ≠ .fourScreen) :
    ∃ l u h t, busRead a s = .ok l u ∧ busRead (pointerSecond a) u = .ok h t ∧
      exec (.jmpInd a) s = .next { t with pc := cat h l } := by
  obtain ⟨l, q, hl⟩ := busRead_total a s hm
  obtain ⟨h, r, hh⟩ := busRead_total (pointerSecond a) (s.setPpu q) hm
  exact ⟨l, _, h, _, hl, hh, exec_jmpInd_ok hl hh⟩

/-- Settles O32: the indirect form jumps where its operand resolves to, and `pointerSecond` is the page-wrap of R101. -/
theorem jumpsComplete : Obligations.JumpsComplete := by
  unfold Obligations.JumpsComplete
  exact ⟨fun a s => rfl, exec_jmpInd_total, fun a s u t l h => exec_jmpInd_ok,
    fun a s u hl => by rw [exec_jmpInd, resolve_ind_stop_first hl, Access.stop_jump],
    fun a s u t l hl hh => by rw [exec_jmpInd, resolve_ind_stop_second hl hh, Access.stop_jump],
    encodedAs_of_optable (by decide) (by decide)⟩

/-! ### The branches -/

theorem sext_eq_signExtend (d : Byte) : sext d = d.signExtend 16 := by
  revert d; decide

theorem sext_toInt (d : Byte) : (sext d).toInt = d.toInt := by
  rw [sext_eq_signExtend, BitVec.toInt_signExtend_of_le (by decide)]

/-- R196: the displacement is added to the address after the operand if the condition holds. -/
theorem branch_eq (c : Bool) (d : Byte) (s : State) :
    branch c d s = .next { s with pc := if c = true then s.pc + 1#16 + sext d else s.pc + 1#16 } := by
  cases c <;> rfl

theorem branch_not_eq (c : Bool) (d : Byte) (s : State) :
    branch (!c) d s = .next { s with pc := if c = false then s.pc + 1#16 + sext d else s.pc + 1#16 } := by
  cases c <;> rfl

/-- Settles O35: each branch is `Branch` at its flag, or at the flag's negation. -/
theorem branchesComplete : Obligations.BranchesComplete := by
  unfold Obligations.BranchesComplete
  refine ⟨sext_toInt, fun d s => ?_, ?_⟩
  · exact ⟨branch_not_eq _ d s, branch_eq _ d s, branch_eq _ d s, branch_not_eq _ d s, branch_eq _ d s,
      branch_not_eq _ d s, branch_not_eq _ d s, branch_eq _ d s⟩
  · refine ⟨?_, ?_, ?_, ?_, ?_, ?_, ?_, ?_⟩ <;> exact encodedAs_of_optable (by decide) (by decide)

end Sys2Proof.Machine

/-! ## The instruction cycle (35_instruction_cycle.md R120 to R128; 60_exceptions.md R320, R327, R328) -/

namespace Sys2Proof.Machine

/-! ### NMI entry and the poll -/

theorem pollNmi_of_latch_clear {s : State} (h : s.ppu.nmiLatch = false) : pollNmi s = s := by
  rw [pollNmi, h]
  rfl

/-- Entry never stops, so the poll of a set latch ends where entry from the cleared latch does. -/
theorem nmiEntry_eq_pollNmi {s : State} (h : s.ppu.nmiLatch = true) :
    nmiEntry { s with ppu := { s.ppu with nmiLatch := false } } = .ok () (pollNmi s) := by
  rw [pollNmi, if_pos h, State.updPpu, State.setPpu, nmiEntry_eq, Access.state]

/-- Settles O56: `nmiEntry_eq` with the pushed status, the flag's bit and the vector written out. -/
theorem nmiEntryAndPoll : Obligations.NmiEntryAndPoll := by
  unfold Obligations.NmiEntryAndPoll
  exact ⟨nmiEntry_eq, fun s => pollNmi_of_latch_clear, fun s => nmiEntry_eq_pollNmi⟩

/-! ### The fetch of an encoded instruction -/

theorem dataRead_setPc {s t : State} {v : Byte} (pc : Word) (h : dataRead s = .ok v t) :
    dataRead (s.setPc pc) = .ok v (t.setPc pc) := by
  unfold dataRead at h ⊢
  simp only [State.setPc_cart, State.setPc_ppu]
  cases hc : ppuCell s.cart.mirroring s.ppu.addr with
  | chr a => rw [hc] at h; cases h; rfl
  | vram k =>
    simp only [hc] at h ⊢
    split at h
    · next hk => rw [if_pos hk]; cases h; rfl
    · cases h
  | palette k => rw [hc] at h; cases h; rfl

theorem portRead_setPc {port : Nat} {s t : State} {v : Byte} (pc : Word) (h : portRead port s = .ok v t) :
    portRead port (s.setPc pc) = .ok v (t.setPc pc) := by
  unfold portRead at h ⊢
  split at h
  · cases h; rfl
  · cases h; rfl
  · exact dataRead_setPc pc h
  · cases h; rfl

/-- A read does not look at `PC`. -/
theorem busRead_setPc {a : Word} {s t : State} {v : Byte} (pc : Word) (h : busRead a s = .ok v t) :
    busRead a (s.setPc pc) = .ok v (t.setPc pc) := by
  unfold busRead at h ⊢
  split_ifs at h ⊢
  · cases h; rfl
  · exact portRead_setPc pc h
  · cases h; rfl
  · cases h; rfl

theorem fetchBytes_succ_eq_ok {n : Nat} {a : Word} {b : Byte} {bs : List Byte} {s t : State} :
    fetchBytes (n + 1) a s = .ok (b :: bs) t ↔
      ∃ u, busRead a s = .ok b u ∧ fetchBytes n (a + 1#16) u = .ok bs t := by
  simp only [fetchBytes, Access.andThen_eq_ok]
  constructor
  · rintro ⟨v, u, hb, vs, w, hbs, e⟩
    cases e
    exact ⟨u, hb, hbs⟩
  · rintro ⟨u, hb, hbs⟩
    exact ⟨b, u, hb, bs, t, hbs, rfl⟩

theorem fetchBytes_setPc {n : Nat} {a : Word} {s t : State} {bs : List Byte} (pc : Word)
    (h : fetchBytes n a s = .ok bs t) : fetchBytes n a (s.setPc pc) = .ok bs (t.setPc pc) := by
  induction n generalizing a s bs with
  | zero => cases h; rfl
  | succ n ih =>
    obtain ⟨b, u, hb, h⟩ := Access.andThen_eq_ok.1 h
    obtain ⟨vs, w, hbs, e⟩ := Access.andThen_eq_ok.1 h
    cases e
    exact fetchBytes_succ_eq_ok.2 ⟨_, busRead_setPc pc hb, ih hbs⟩

/-- Where the bytes at `PC` are an instruction's encoding, the fetch answers it and its descriptor, `PC` at byte 1. -/
theorem fetchInstr_of_encode {i : Instr} {s t : State}
    (h : fetchBytes (encode i).length s.pc s = .ok (encode i) t) :
    ∃ d, optable i.opcode = some d ∧ fetchInstr s = .ok (d, i) (t.setPc (s.pc + 1#16)) := by
  obtain ⟨c, hc⟩ := optable_opcode i
  refine ⟨_, hc, ?_⟩
  rw [encode, List.length_cons, Operand.length_bytes] at h
  obtain ⟨u, hop, hbs⟩ := fetchBytes_succ_eq_ok.1 h
  have hdecode : decode (i.opcode :: i.operand.bytes) = .ok (i, []) := by
    simpa [encode] using decode_encode_append i []
  rw [fetchInstr, hop, Access.ok_andThen, hc]
  dsimp only
  rw [fetchBytes_setPc _ hbs, Access.ok_andThen, hdecode]

/-! ### The step of a fetched instruction -/

/-- The tick of R127: three PPU cycles for each CPU cycle, the frame pulse what the PPU reports. -/
theorem tickPpu_eq (cycles : Nat) (s : State) :
    tickPpu cycles s =
      { s with ppu := (ppuTick (3 * cycles) s.ppu).1, frameComplete := (ppuTick (3 * cycles) s.ppu).2 } := rfl

theorem endCycle_of_not_running {cycles : Nat} {s : State} (h : s.run ≠ .running) : endCycle cycles s = s := by
  rw [endCycle, if_neg h]

theorem step_of_encode {i : Instr} {s t u : State} (hrun : s.run = .running)
    (hfetch : fetchBytes (encode i).length s.pc (s.setFrameComplete false) = .ok (encode i) t)
    (hexec : exec i (t.setPc (s.pc + 1#16)) = .next u) :
    ∃ d, optable i.opcode = some d ∧ step s = .next (endCycle d.cycles u) := by
  obtain ⟨d, hd, h⟩ := fetchInstr_of_encode (s := s.setFrameComplete false) hfetch
  exact ⟨d, hd, step_of_fetch_ok hrun h hexec⟩

/-- Settles O57: the fetch answers the encoded instruction, and `endCycle` is the tick, the pulse and the poll. -/
theorem stepRunsTheDecodedInstruction : Obligations.StepRunsTheDecodedInstruction := by
  unfold Obligations.StepRunsTheDecodedInstruction
  intro s t u i hrun hfetch hexec
  obtain ⟨d, hd, hstep⟩ := step_of_encode hrun hfetch hexec
  exact ⟨d, hd, by rw [hstep, endCycle, tickPpu_eq]⟩

/-! ### BRK -/

/-- R205: BRK's one byte is fetched, its meaning halts, and a halted step has no tick and no poll. -/
theorem step_brk {s t : State} (hrun : s.run = .running)
    (hb : busRead s.pc (s.setFrameComplete false) = .ok 0x00#8 t) :
    step s = .next ((t.setPc (s.pc + 1#16)).setRun .haltedBrk) := by
  have hfetch : fetchBytes (encode .brk).length s.pc (s.setFrameComplete false) = .ok (encode .brk) t :=
    fetchBytes_succ_eq_ok.2 ⟨t, hb, rfl⟩
  obtain ⟨d, -, h⟩ := step_of_encode hrun hfetch rfl
  rw [h, endCycle_of_not_running (by simp)]

/-- Settles O36: the meaning and the encodings are read off the model and the opcode table, the step is `step_brk`. -/
theorem brkHaltsAndDoesNothingElse : Obligations.BrkHaltsAndDoesNothingElse := by
  unfold Obligations.BrkHaltsAndDoesNothingElse
  exact ⟨fun s => rfl, encodedAs_of_optable (by decide) (by decide), fun s t => step_brk⟩

end Sys2Proof.Machine

/-! ## Loads, stores and transfers (40_load_store_transfer.md R131 to R142; 41_arithmetic_logic.md R163 to R166;
45_undocumented.md R245, R246) -/

namespace Sys2Proof.Machine

open Sys2Proof.Statements

/-- No form of the mnemonic is IMP, ACC, REL or Indirect, so each has an effective address to read or store to, which it
resolves with no side effect (R94 to R104). -/
def everyFormDirect (m : Mnemonic) : Bool :=
  m.formats.all fun f => f != .imp && f != .acc && f != .rel && f != .ind

theorem direct_of_everyFormDirect {m : Mnemonic} {i : Instr} (hf : everyFormDirect m = true) (hi : i.mnemonic = m) :
    direct i.operand :=
  direct_of_format hi hf

/-! ### What a reading instruction does -/

/-- R94, R124: the Immediate operand is there already, any other is one bus read, which only FourScreen can stop. -/
theorem readOperand_total {o : Operand} {s : State} (hd : direct o)
    (h : s.cart.mirroring = .fourScreen → o.format = .imm) : ∃ m u, readOperand o s = .ok m u := by
  by_cases hi : o.format = .imm
  · cases o with
    | imm v => exact ⟨v, s, rfl⟩
    | _ => cases hi
  · obtain ⟨m, q, hr⟩ := busRead_total (effective o s) s (mt h hi)
    exact ⟨m, _, (readOperand_eq_busRead s hd hi).trans hr⟩

theorem readForm_of_readOperand_ok {f : Byte → State → State} {o : Operand} {s u : State} {m : Byte}
    (h : readOperand o s = .ok m u) :
    readForm f o s = .next ((f m u).setPc ((f m u).pc + BitVec.ofNat 16 o.operandBytes)) := by
  rw [readForm_eq, h]

theorem readForm_of_readOperand_stop {f : Byte → State → State} {o : Operand} {s u : State}
    (h : readOperand o s = .stop u) : readForm f o s = .next u := by
  rw [readForm_eq, h]

/-- An instruction whose meaning is the reading shape at its operand reads it and ends in `after`. -/
theorem reads_of_readForm {i : Instr} {s : State} {after : Byte → State → State} (hd : direct i.operand)
    (h : exec i s = readForm after i.operand s) : Reads i s after := by
  have completes (m : Byte) (u : State) (hr : readOperand i.operand s = .ok m u) :
      exec i s = .next (advanced i (after m u)) := h.trans (readForm_of_readOperand_ok hr)
  refine ⟨fun himm => ?_, completes, fun u hr => h.trans (readForm_of_readOperand_stop hr)⟩
  obtain ⟨m, u, hr⟩ := readOperand_total hd himm
  exact ⟨m, u, hr, completes m u hr⟩

theorem reads_of_mnemonic {m : Mnemonic} {after : Byte → State → State} (hf : everyFormDirect m = true)
    (hm : execAs m = readForm after) (i : Instr) (s : State) (hi : i.mnemonic = m) : Reads i s after :=
  reads_of_readForm (direct_of_everyFormDirect hf hi) (by rw [exec_eq, hi, hm])

/-- Settles O22: each of the four meanings is the reading shape, with the load of its register or registers; the
encodings are read off the opcode table. -/
theorem loadsCompleteInEveryForm : Obligations.LoadsCompleteInEveryForm := by
  unfold Obligations.LoadsCompleteInEveryForm
  refine ⟨reads_of_mnemonic rfl rfl, reads_of_mnemonic rfl rfl, reads_of_mnemonic rfl rfl, reads_of_mnemonic rfl rfl,
    ?_, ?_, ?_, ?_⟩ <;> exact encodedAs_of_optable (by decide) (by decide)

/-! ### What a storing instruction does -/

theorem storeForm_of_busWrite_ok {value : State → Byte} {o : Operand} {s t : State} (hd : direct o)
    (h : busWrite (effective o s) (value s) s = .ok () t) :
    storeForm value o s = .next (t.setPc (t.pc + BitVec.ofNat 16 o.operandBytes)) := by
  rw [storeForm_direct value s hd, h, Access.ok_advance]

theorem storeForm_of_busWrite_stop {value : State → Byte} {o : Operand} {s t : State} (hd : direct o)
    (h : busWrite (effective o s) (value s) s = .stop t) : storeForm value o s = .next t := by
  rw [storeForm_direct value s hd, h, Access.stop_advance]

/-- R62: an instruction whose meaning is the storing shape writes in the state it started in, as resolving changes
nothing and no read of the address precedes. -/
theorem stores_of_storeForm {i : Instr} {s : State} {value : State → Byte} (hd : direct i.operand)
    (h : exec i s = storeForm value i.operand s) : Stores i s (value s) := by
  have completes (t : State) (hw : busWrite (effective i.operand s) (value s) s = .ok () t) :
      exec i s = .next (advanced i t) := h.trans (storeForm_of_busWrite_ok hd hw)
  refine ⟨effective i.operand s, resolve_direct s hd, fun hm => ?_, completes,
    fun t hw => h.trans (storeForm_of_busWrite_stop hd hw)⟩
  obtain ⟨t, hw⟩ := busWrite_total (effective i.operand s) (value s) s hm
  exact ⟨t, hw, completes t hw⟩

theorem stores_of_mnemonic {m : Mnemonic} {value : State → Byte} (hf : everyFormDirect m = true)
    (hm : execAs m = storeForm value) (i : Instr) (s : State) (hi : i.mnemonic = m) : Stores i s (value s) :=
  stores_of_storeForm (direct_of_everyFormDirect hf hi) (by rw [exec_eq, hi, hm])

/-- Settles O23: each of the four meanings is the storing shape at its register's byte; the encodings are read off the
opcode table. -/
theorem storesCompleteInEveryForm : Obligations.StoresCompleteInEveryForm := by
  unfold Obligations.StoresCompleteInEveryForm
  refine ⟨stores_of_mnemonic rfl rfl, stores_of_mnemonic rfl rfl, stores_of_mnemonic rfl rfl,
    stores_of_mnemonic rfl rfl, ?_, ?_, ?_, ?_⟩ <;> exact encodedAs_of_optable (by decide) (by decide)

/-! ### Transfers and register increments -/

/-- Settles O25: the ten meanings access no memory, and their next states stand so in the model; the encodings are
read off the opcode table. -/
theorem transfersAndRegisterIncrementsComplete : Obligations.TransfersAndRegisterIncrementsComplete := by
  unfold Obligations.TransfersAndRegisterIncrementsComplete
  refine fun s => ⟨rfl, rfl, rfl, rfl, rfl, rfl, rfl, rfl, rfl, rfl, ?_, ?_, ?_, ?_, ?_, ?_, ?_, ?_, ?_, ?_⟩ <;>
    exact encodedAs_of_optable (by decide) (by decide)

end Sys2Proof.Machine

/-! ## Arithmetic and logic (41_arithmetic_logic.md R151 to R162; 45_undocumented.md R253) -/

namespace Sys2Proof.Machine

open Sys2Proof.Statements

/-! ### Compare and BIT -/

/-- Settles O17, by the lemmas that give every flag after `Compare` and after BIT. -/
theorem compareAndBitFlags : Obligations.CompareAndBitFlags := by
  unfold Obligations.CompareAndBitFlags
  refine fun r m p => ⟨⟨?_, ?_, ?_, fun f hc hz hn => ?_⟩, ?_, ?_, ?_, fun f hz hn hv => ?_⟩
  · simp [flag_compareFlags]
  · simpa [flag_compareFlags] using sub_eq_zero (a := r) (b := m)
  · simp [flag_compareFlags]
  · rw [flag_compareFlags, if_neg hn, if_neg hz, if_neg hc]
  · simp [flag_bitFlags]
  · simp [flag_bitFlags]
  · simp [flag_bitFlags]
  · rw [flag_bitFlags, if_neg hv, if_neg hn, if_neg hz]

/-! ### The sign of a byte -/

/-- Bit 7 is what the mask 0x80 leaves of a byte. -/
theorem and_0x80_bne_zero (x : Byte) : (x &&& 0x80#8 != 0#8) = x.getLsbD 7 := by
  have mask : x &&& 0x80#8 = if x.getLsbD 7 then 0x80#8 else 0#8 := BitVec.and_twoPow x 7
  rw [mask]
  cases x.getLsbD 7 <;> rfl

theorem getLsbD_7_eq_decide (x : Byte) : x.getLsbD 7 = decide (0x80 ≤ x.toNat) :=
  (BitVec.msb_eq_getLsbD_last x).symm.trans (BitVec.msb_eq_decide x)

/-- The complement is the negation less one, with no exception at the least value. -/
theorem toInt_not_byte (m : Byte) : (~~~m).toInt = -m.toInt - 1 := by
  rw [BitVec.toInt_eq_toNat_cond, BitVec.toInt_eq_toNat_cond, BitVec.toNat_not]
  omega

/-! ### `AddWithCarry` -/

theorem addResult_toNat (a m : Byte) (c : Bool) :
    (addResult a m c).toNat = (a.toNat + m.toNat + c.toNat) % 256 :=
  BitVec.toNat_ofNat ..

/-- R152: with the complement for operand, the sum is the difference less the borrow. -/
theorem addResult_not_toNat (a m : Byte) (c : Bool) :
    (addResult a (~~~m) c).toNat = (a.toNat + 255 - m.toNat + c.toNat) % 256 := by
  rw [addResult_toNat, BitVec.toNat_not]
  congr 1
  omega

theorem flag_addFlags_c_iff (a m p : Byte) :
    flag (addFlags a m p) .c = true ↔ 0xFF < a.toNat + m.toNat + (flag p .c).toNat := by
  rw [← carrySum]
  simp [flag_addFlags]

/-- R151: the masked expression is the sign rule: the inputs have one sign and the result the other. -/
theorem flag_addFlags_v_iff (a m p : Byte) :
    flag (addFlags a m p) .v = true ↔
      a.getLsbD 7 = m.getLsbD 7 ∧ (addResult a m (flag p .c)).getLsbD 7 ≠ a.getLsbD 7 := by
  have bits : flag (addFlags a m p) .v =
      ((a ^^^ addResult a m (flag p .c)) &&& (m ^^^ addResult a m (flag p .c))).getLsbD 7 := by
    rw [← and_0x80_bne_zero]
    simp [flag_addFlags]
  rw [bits, BitVec.getLsbD_and, BitVec.getLsbD_xor, BitVec.getLsbD_xor]
  cases a.getLsbD 7 <;> cases m.getLsbD 7 <;> simp

/-- R151: overflow is clear exactly when the two's-complement sum with the carry is the result's value. -/
theorem flag_addFlags_v_eq_false_iff (a m p : Byte) :
    flag (addFlags a m p) .v = false ↔
      (addResult a m (flag p .c)).toInt = a.toInt + m.toInt + (flag p .c).toNat := by
  have sum := addResult_toNat a m (flag p .c)
  have carry := Bool.toNat_le (flag p .c)
  rw [← Bool.not_eq_true, flag_addFlags_v_iff]
  simp only [getLsbD_7_eq_decide, BitVec.toInt_eq_toNat_cond, decide_eq_decide, ne_eq]
  omega

/-- Settles O18: each flag is the one `addFlags` gives, and overflow is the sign rule. -/
theorem addWithCarryResultAndFlags : Obligations.AddWithCarryResultAndFlags := by
  unfold Obligations.AddWithCarryResultAndFlags
  refine fun a m p => ⟨addResult_toNat a m _, flag_addFlags_c_iff a m p, flag_addFlags_v_iff a m p, ?_, ?_,
    fun f hc hv hz hn => ?_⟩
  · simp [flag_addFlags]
  · simp [flag_addFlags]
  · rw [flag_addFlags, if_neg hn, if_neg hz, if_neg hv, if_neg hc]

/-- Settles O19: the complement is 255 less the operand unsigned, and the negation less one signed; the carry is one
less the borrow. -/
theorem subtractBorrowAndOverflow : Obligations.SubtractBorrowAndOverflow := by
  unfold Obligations.SubtractBorrowAndOverflow
  intro a m p
  dsimp only
  have carry := Bool.toNat_le (flag p .c)
  refine ⟨?_, ?_, ?_⟩
  · rw [addResult_not_toNat]
    omega
  · rw [flag_addFlags_c_iff, BitVec.toNat_not]
    omega
  · rw [flag_addFlags_v_eq_false_iff, toInt_not_byte]
    omega

/-- R152: after adding `m` with one carry and subtracting it with another, `a` is off by the carries' sum less one. -/
theorem addResult_addResult_not_eq_iff (a m : Byte) (c c' : Bool) :
    addResult (addResult a m c) (~~~m) c' = a ↔ c.toNat + c'.toNat = 1 := by
  have carry := Bool.toNat_le c
  have carry' := Bool.toNat_le c'
  rw [← BitVec.toNat_inj, addResult_not_toNat, addResult_toNat]
  omega

/-- Settles O20, which holds of any two carries. -/
theorem adcThenSbcRestoresExactlyWhen : Obligations.AdcThenSbcRestoresExactlyWhen := by
  unfold Obligations.AdcThenSbcRestoresExactlyWhen
  exact fun a m p => addResult_addResult_not_eq_iff a m _ _

/-! ### The reading instructions -/

/-- Settles O26: both meanings are the reading shape, with `AddWithCarry` of the byte or of its complement; the
encodings are read off the opcode table. -/
theorem addAndSubtractCompleteInEveryForm : Obligations.AddAndSubtractCompleteInEveryForm := by
  unfold Obligations.AddAndSubtractCompleteInEveryForm
  refine ⟨reads_of_mnemonic rfl rfl, reads_of_mnemonic rfl rfl, ?_, ?_⟩ <;>
    exact encodedAs_of_optable (by decide) (by decide)

/-- Settles O27: the three meanings are the reading shape, with the load of the combined byte; the encodings are read
off the opcode table. -/
theorem logicCompletesInEveryForm : Obligations.LogicCompletesInEveryForm := by
  unfold Obligations.LogicCompletesInEveryForm
  refine ⟨reads_of_mnemonic rfl rfl, reads_of_mnemonic rfl rfl, reads_of_mnemonic rfl rfl, ?_, ?_, ?_⟩ <;>
    exact encodedAs_of_optable (by decide) (by decide)

/-- Settles O28: the four meanings are the reading shape, with a write of `P` alone; the encodings are read off the
opcode table. -/
theorem comparesAndBitCompleteInEveryForm : Obligations.ComparesAndBitCompleteInEveryForm := by
  unfold Obligations.ComparesAndBitCompleteInEveryForm
  refine ⟨reads_of_mnemonic rfl rfl, reads_of_mnemonic rfl rfl, reads_of_mnemonic rfl rfl, reads_of_mnemonic rfl rfl,
    ?_, ?_, ?_, ?_⟩ <;> exact encodedAs_of_optable (by decide) (by decide)

/-! ### What a read-modify-write instruction does -/

section

variable {α : Type} {core : Byte → State → Byte × α} {after : Byte → α → State → State}

theorem modifyForm_of_busWrite_ok {o : Operand} {s w t : State} {v : Byte} (hd : direct o)
    (hr : busRead (effective o s) s = .ok v w) (hw : busWrite (effective o s) (core v w).1 w = .ok () t) :
    modifyForm core after o s = .next ((after (core v w).1 (core v w).2 t).setPc
      ((after (core v w).1 (core v w).2 t).pc + BitVec.ofNat 16 o.operandBytes)) := by
  simp only [modifyForm_direct core after s hd, hr, hw]

theorem modifyForm_of_busWrite_stop {o : Operand} {s w t : State} {v : Byte} (hd : direct o)
    (hr : busRead (effective o s) s = .ok v w) (hw : busWrite (effective o s) (core v w).1 w = .stop t) :
    modifyForm core after o s = .next t := by
  simp only [modifyForm_direct core after s hd, hr, hw]

theorem modifyForm_of_busRead_stop {o : Operand} {s w : State} (hd : direct o)
    (hr : busRead (effective o s) s = .stop w) : modifyForm core after o s = .next w := by
  simp only [modifyForm_direct core after s hd, hr]

/-- R62: an instruction whose meaning is the modifying shape reads its address, then writes it. The read changes the PPU
alone (`busRead_ok`), so a core that does not look at the PPU computes from the state before it. -/
theorem modifies_of_modifyForm {i : Instr} {s : State} (hd : direct i.operand)
    (h : exec i s = modifyForm core after i.operand s) (hcore : ∀ v q, core v (s.setPpu q) = core v s) :
    Modifies i s (fun v => (core v s).1) fun v u => after (core v s).1 (core v s).2 u := by
  have core_read {v : Byte} {w : State} (hr : busRead (effective i.operand s) s = .ok v w) : core v s = core v w := by
    obtain ⟨q, rfl, -⟩ := busRead_ok hr
    exact (hcore v q).symm
  have completes (v : Byte) (w t : State) (hr : busRead (effective i.operand s) s = .ok v w)
      (hw : busWrite (effective i.operand s) (core v s).1 w = .ok () t) :
      exec i s = .next (advanced i (after (core v s).1 (core v s).2 t)) := by
    rw [core_read hr] at hw ⊢
    exact h.trans (modifyForm_of_busWrite_ok hd hr hw)
  have stops (v : Byte) (w t : State) (hr : busRead (effective i.operand s) s = .ok v w)
      (hw : busWrite (effective i.operand s) (core v s).1 w = .stop t) : exec i s = .next t := by
    rw [core_read hr] at hw
    exact h.trans (modifyForm_of_busWrite_stop hd hr hw)
  refine ⟨effective i.operand s, resolve_direct s hd, fun hm => ?_, completes, stops,
    fun w hr => h.trans (modifyForm_of_busRead_stop hd hr)⟩
  obtain ⟨v, q, hr⟩ := busRead_total (effective i.operand s) s hm
  obtain ⟨t, hw⟩ := busWrite_total (effective i.operand s) (core v s).1 (s.setPpu q) hm
  exact ⟨v, _, t, hr, hw, completes v _ t hr hw⟩

theorem modifies_of_mnemonic {m : Mnemonic} (hf : everyFormDirect m = true) (hm : execAs m = modifyForm core after)
    (hcore : ∀ v s q, core v (State.setPpu s q) = core v s) (i : Instr) (s : State) (hi : i.mnemonic = m) :
    Modifies i s (fun v => (core v s).1) fun v u => after (core v s).1 (core v s).2 u :=
  modifies_of_modifyForm (direct_of_everyFormDirect hf hi) (by rw [exec_eq, hi, hm]) fun v q => hcore v s q

end

/-- R161, R162: an instruction that replaces the byte by `new` of it and sets `Z` and `N` from the computed byte. -/
theorem modifies_of_mnemonic_setZN {m : Mnemonic} {new : Byte → Byte} (hf : everyFormDirect m = true)
    (hm : execAs m = modifyForm (fun v _ => (new v, ())) fun r _ s => s.setP (setZN s.p r)) (i : Instr) (s : State)
    (hi : i.mnemonic = m) : Modifies i s new fun v u => { u with p := setZN u.p (new v) } :=
  modifies_of_mnemonic hf hm (fun _ _ _ => rfl) i s hi

/-- Settles O29: both meanings are the modifying shape, with a core that looks at the byte alone, so that `Z` and `N`
are those of the computed byte whatever the write did with it; the encodings are read off the opcode table. -/
theorem memoryIncrementAndDecrementComplete : Obligations.MemoryIncrementAndDecrementComplete := by
  unfold Obligations.MemoryIncrementAndDecrementComplete
  refine ⟨modifies_of_mnemonic_setZN rfl rfl, modifies_of_mnemonic_setZN rfl rfl, ?_, ?_⟩ <;>
    exact encodedAs_of_optable (by decide) (by decide)

end Sys2Proof.Machine

/-! ## Shifts and rotates (42_shift_rotate.md R180 to R184) -/

namespace Sys2Proof.Machine

open Sys2Proof.Statements

/-! ### The cores as arithmetic -/

theorem aslCore_toNat (v : Byte) (c : Bool) : (aslCore v c).1.toNat = 2 * v.toNat % 256 := by
  rw [aslCore, BitVec.toNat_shiftLeft, Nat.shiftLeft_eq, Nat.mul_comm]

theorem lsrCore_toNat (v : Byte) (c : Bool) : (lsrCore v c).1.toNat = v.toNat / 2 :=
  BitVec.toNat_ushiftRight ..

/-- R183: the carry enters below the value, and bit 7 leaves it. -/
theorem rolCore_eq_shiftConcat (v : Byte) (c : Bool) : rolCore v c = (v.shiftConcat c, v.getLsbD 7) := by
  unfold rolCore
  congr 1
  ext i hi
  cases c <;> cases i <;> simp [BitVec.getElem_shiftConcat]

theorem rolCore_toNat (v : Byte) (c : Bool) : (rolCore v c).1.toNat = (2 * v.toNat + c.toNat) % 256 := by
  rw [rolCore_eq_shiftConcat, BitVec.toNat_shiftConcat, Nat.shiftLeft_eq, Nat.mul_comm]

/-- R184: half the value leaves bit 7 free for the carry, so that the disjunction is a sum. -/
theorem rorCore_toNat (v : Byte) (c : Bool) : (rorCore v c).1.toNat = v.toNat / 2 + 128 * c.toNat := by
  have half : v.toNat / 2 < 2 ^ 7 := by omega
  have carry : (if c then 0x80#8 else 0x00#8).toNat = 2 ^ 7 * c.toNat := by cases c <;> rfl
  rw [rorCore, BitVec.toNat_or, carry, Nat.or_comm, BitVec.toNat_ushiftRight, Nat.shiftRight_one,
    ← Nat.two_pow_add_eq_or_of_lt half, Nat.add_comm]

/-! ### Nine ROLs -/

/-- A ROL's value and carry as the nine bits it turns, the carry above the value (R183). -/
def carryAbove (x : Byte × Bool) : BitVec 9 := BitVec.cons x.2 x.1

theorem carryAbove_injective : Function.Injective carryAbove := by
  intro x y h
  have value : x.1 = y.1 := by simpa [carryAbove] using congrArg (BitVec.setWidth 8) h
  have carry : x.2 = y.2 := by simpa [carryAbove] using congrArg BitVec.msb h
  exact Prod.ext value carry

theorem carryAbove_rolCore (x : Byte × Bool) : carryAbove (rolCore x.1 x.2) = (carryAbove x).rotateLeft 1 := by
  rw [rolCore_eq_shiftConcat]
  ext i hi
  interval_cases i <;>
    simp [carryAbove, BitVec.getElem_cons, BitVec.getElem_rotateLeft, BitVec.getElem_shiftConcat]

theorem rotateLeft_one_iterate_nine (w : BitVec 9) : (·.rotateLeft 1)^[9] w = w := by
  ext i hi
  interval_cases i <;> simp [BitVec.getElem_rotateLeft]

/-- R183: a ROL turns the nine bits by one place, so nine of them turn each bit back to its own. -/
theorem rolCore_iterate_nine (x : Byte × Bool) : (fun x : Byte × Bool => rolCore x.1 x.2)^[9] x = x := by
  have turn : Function.Semiconj carryAbove (fun x => rolCore x.1 x.2) (·.rotateLeft 1) := carryAbove_rolCore
  apply carryAbove_injective
  rw [turn.iterate_right 9 x, rotateLeft_one_iterate_nine]

/-- Settles O21: each result by its core's arithmetic, each bit shifted out as the core has it, and the nine ROLs by
the turn of nine bits. -/
theorem shiftCoresAsArithmetic : Obligations.ShiftCoresAsArithmetic := by
  unfold Obligations.ShiftCoresAsArithmetic
  exact fun v c => ⟨⟨aslCore_toNat v c, rfl⟩, ⟨lsrCore_toNat v c, rfl⟩, ⟨rolCore_toNat v c, rfl⟩,
    ⟨rorCore_toNat v c, rfl⟩, rolCore_iterate_nine (v, c)⟩

/-! ### The accumulator forms -/

/-- R180: what a shift writes of `P`, from its result and the bit shifted out. -/
theorem flag_shiftFlags_czn (r p : Byte) (c : Bool) :
    flag (shiftFlags r c p) .c = c ∧ (flag (shiftFlags r c p) .z = true ↔ r = 0x00#8) ∧
      flag (shiftFlags r c p) .n = r.getLsbD 7 := by
  simp [flag_shiftFlags]

/-- Settles O30: the four meanings are `ShiftAcc`, whose next state stands so in the model, and the flags are those of
`flag_shiftFlags`. -/
theorem accumulatorShiftsComplete : Obligations.AccumulatorShiftsComplete := by
  unfold Obligations.AccumulatorShiftsComplete
  exact fun s => ⟨rfl, rfl, rfl, rfl, flag_shiftFlags_czn⟩

/-! ### The memory forms -/

theorem shiftBy_of_ne_acc {core : ShiftCore} {o : Operand} (s : State) (h : o ≠ .acc) :
    shiftBy core o s = shiftForm core o s := by
  cases o with
  | acc => exact absurd rfl h
  | _ => rfl

/-- R180: a shift at a memory operand is the modifying shape, with a core that looks at the byte and the carry, which
the read of the byte leaves alone; so `Z` and `N` are those of the byte written (D31). -/
theorem modifies_of_mnemonic_shiftBy {m : Mnemonic} {core : ShiftCore}
    (hf : m.formats.all (fun f => f == .acc || (f != .imp && f != .rel && f != .ind)) = true)
    (hm : execAs m = shiftBy core) (i : Instr) (s : State) (hi : i.mnemonic = m) (hacc : i.operand ≠ .acc) :
    Modifies i s (fun v => (core v (flag s.p .c)).1) fun v u =>
      { u with p := shiftFlags (core v (flag s.p .c)).1 (core v (flag s.p .c)).2 u.p } := by
  have hd : direct i.operand := (acc_or_direct hi hf).resolve_left hacc
  have meaning : exec i s = shiftForm core i.operand s := by rw [exec_eq, hi, hm, shiftBy_of_ne_acc s hacc]
  exact modifies_of_modifyForm hd meaning fun _ _ => rfl

/-- Settles O31: the four meanings are a shift at a memory operand, with the mnemonic's core; the encodings are read
off the opcode table. -/
theorem memoryShiftsCompleteInEveryForm : Obligations.MemoryShiftsCompleteInEveryForm := by
  unfold Obligations.MemoryShiftsCompleteInEveryForm
  refine ⟨modifies_of_mnemonic_shiftBy rfl rfl, modifies_of_mnemonic_shiftBy rfl rfl,
    modifies_of_mnemonic_shiftBy rfl rfl, modifies_of_mnemonic_shiftBy rfl rfl, ?_, ?_, ?_, ?_⟩ <;>
    exact encodedAs_of_optable (by decide) (by decide)

end Sys2Proof.Machine

/-! ## Control transfer: subroutines, RTI and NOP (43_control_flow.md R193 to R195, R206; 45_undocumented.md R254 to
R256; 60_exceptions.md R331) -/

namespace Sys2Proof.Machine

open Sys2Proof.Statements

/-! ### JSR and RTS -/

theorem exec_jsr (a : Word) (s : State) :
    exec (.jsr a) s = ((push16 (s.pc + 1#16) s).andThen fun _ s => .ok a s).jump := rfl

theorem exec_rts (s : State) : exec .rts s = ((pop16 s).andThen fun w s => .ok (w + 1#16) s).jump := rfl

theorem exec_jsr_of_push16 {a : Word} {s t : State} (h : push16 (s.pc + 1#16) s = .ok () t) :
    exec (.jsr a) s = .next (t.setPc a) := by
  rw [exec_jsr, h, Access.ok_andThen, Access.ok_jump]

theorem exec_rts_of_pop16 {w : Word} {s t : State} (h : pop16 s = .ok w t) :
    exec .rts s = .next (t.setPc (w + 1#16)) := by
  rw [exec_rts, h, Access.ok_andThen, Access.ok_jump]

/-- R193, R194: the word JSR pushes is that of its last byte, and RTS adds the one that is missing. -/
theorem exec_rts_of_exec_jsr {a : Word} {s t u : State} (h : exec (.jsr a) s = .next t) (hram : u.ram = t.ram)
    (hsp : u.sp = t.sp) : exec .rts u = .next { u with sp := s.sp, pc := s.pc + 2#16 } := by
  obtain ⟨w, hpush, hwsp, hhi, hlo, -, -⟩ := pushAndPopAWord (s.pc + 1#16) s
  rw [exec_jsr_of_push16 hpush, Host.Outcome.next.injEq] at h
  subst h
  have hpop : pop16 u = .ok (s.pc + 1#16) (u.setSp s.sp) :=
    pop16_of_cells (hsp.trans hwsp) (hram ▸ hhi) (hram ▸ hlo)
  rw [exec_rts_of_pop16 hpop, BitVec.add_assoc]
  rfl

/-- Settles O33: the pushed and the popped word by `push16_eq` and `pop16_eq`, the round trip by the two cells that
`pushAndPopAWord` gives; the encodings are read off the opcode table. -/
theorem subroutineCallAndReturn : Obligations.SubroutineCallAndReturn := by
  unfold Obligations.SubroutineCallAndReturn
  exact ⟨fun a s => exec_jsr_of_push16 (push16_eq _ s), fun s => exec_rts_of_pop16 (pop16_eq s),
    fun a s t u => exec_rts_of_exec_jsr, encodedAs_of_optable (by decide) (by decide),
    encodedAs_of_optable (by decide) (by decide)⟩

/-! ### RTI -/

theorem exec_rti (s : State) : exec .rti s = (returnFromNmi s).jump := rfl

/-- R17: a status with Break 0 and Break2 1 is what its restoration leaves. -/
theorem restoredStatus_of_live {p : Byte} (hb : flag p .b = false) (hu : flag p .u = true) : restoredStatus p = p := by
  apply status_ext
  intro f
  rw [flag_restoredStatus]
  split_ifs with hfb hfu
  · rw [hfb, hb]
  · rw [hfu, hu]
  · rfl

/-- R327: entry leaves the program counter and, below it, the status in the three cells from `SP` down. -/
theorem nmiEntry_cells {s t : State} (h : nmiEntry s = .ok () t) :
    t.sp = s.sp - 3#8 ∧ t.ram.read (stackIndex s.sp) = hi s.pc ∧ t.ram.read (stackIndex (s.sp - 1#8)) = lo s.pc ∧
      t.ram.read (stackIndex (s.sp - 2#8)) = nmiStatus s.p := by
  obtain ⟨w, hpush, hwsp, hhi, hlo, -, -⟩ := pushAndPopAWord s.pc s
  obtain ⟨hsp, hram⟩ : t.sp = s.sp - 3#8 ∧ t.ram = w.ram.write (stackIndex (s.sp - 2#8)) (nmiStatus s.p) := by
    rw [nmiEntry_eq] at h
    rw [push16_eq] at hpush
    cases h
    cases hpush
    exact ⟨rfl, rfl⟩
  have above {c : Byte} (hc : c ≠ s.sp - 2#8) : t.ram.read (stackIndex c) = w.ram.read (stackIndex c) := by
    rw [hram, Memory.read_write_other _ _ (mt stackIndex_inj.1 hc)]
  refine ⟨hsp, (above ?_).trans hhi, (above ?_).trans hlo, by rw [hram, Memory.read_write_same]⟩
  · bv_omega
  · bv_omega

/-- R195: the status popped first lies below the word popped next. -/
theorem returnFromNmi_of_cells {w : Word} {v sp : Byte} {u : State} (hsp : u.sp = sp - 3#8)
    (hhi : u.ram.read (stackIndex sp) = hi w) (hlo : u.ram.read (stackIndex (sp - 1#8)) = lo w)
    (hv : u.ram.read (stackIndex (sp - 2#8)) = v) :
    returnFromNmi u = .ok w ((u.setP (restoredStatus v)).setSp sp) := by
  have first : u.sp + 1#8 = sp - 2#8 := by rw [hsp]; bv_omega
  rw [returnFromNmi, pop8_stackIndex, first, hv, Access.ok_andThen]
  exact pop16_of_cells rfl hhi hlo

/-- R331: RTI undoes NMI entry, for a live status. -/
theorem exec_rti_of_nmiEntry {s t u : State} (h : nmiEntry s = .ok () t) (hram : u.ram = t.ram) (hsp : u.sp = t.sp)
    (hb : flag s.p .b = false) (hu : flag s.p .u = true) :
    exec .rti u = .next { u with p := s.p, sp := s.sp, pc := s.pc } := by
  obtain ⟨htsp, hhi, hlo, hstatus⟩ := nmiEntry_cells h
  rw [← hram] at hhi hlo hstatus
  rw [exec_rti, returnFromNmi_of_cells (hsp.trans htsp) hhi hlo hstatus, Access.ok_jump, restoredStatus_nmiStatus,
    restoredStatus_of_live hb hu]
  rfl

/-- Settles O34: the popped bytes by `returnFromNmi_eq`, the inverse by the three cells that entry leaves; the encoding
is read off the opcode table. -/
theorem returnFromInterruptCompletesAndUndoesNmiEntry :
    Obligations.ReturnFromInterruptCompletesAndUndoesNmiEntry := by
  unfold Obligations.ReturnFromInterruptCompletesAndUndoesNmiEntry
  refine ⟨fun s => ?_, encodedAs_of_optable (by decide) (by decide), fun s t u => exec_rti_of_nmiEntry⟩
  rw [exec_rti, returnFromNmi_eq, Access.ok_jump]
  rfl

/-! ### NOP -/

theorem exec_nop_imp {i : Instr} (s : State) (hi : i.mnemonic = .nop) (ho : i.operand = .imp) :
    exec i s = .next s := by
  rw [exec_eq, hi, ho, execAs]

/-- R254 to R256: a NOP with an operand is the reading shape, and keeps what the read left. -/
theorem reads_of_nop {i : Instr} (s : State) (hi : i.mnemonic = .nop) (ho : i.operand ≠ .imp) :
    Reads i s fun _ u => u := by
  have hd : direct i.operand := (nop_operand hi).resolve_left ho
  have meaning : exec i s = nopForm i.operand s := by rw [exec_eq, hi, execAs_nop s hd]
  exact reads_of_readForm hd meaning

/-- Settles O37: the 1-byte forms by their meaning, the others by the reading shape; the encodings are read off the
opcode table. -/
theorem nopsComplete : Obligations.NopsComplete := by
  unfold Obligations.NopsComplete
  exact ⟨fun i s => exec_nop_imp s, fun i s => reads_of_nop s, encodedAs_of_optable (by decide) (by decide)⟩

end Sys2Proof.Machine

/-! ## Stack and flag instructions (44_stack_flags.md R220 to R230) -/

namespace Sys2Proof.Machine

open Sys2Proof.Statements

/-! ### PHA, PLA, PHP and PLP -/

/-- R122: an instruction of one byte leaves `PC` where the fetch of its opcode put it. -/
theorem Access.ok_advance_zero (s : State) : (Access.ok () s).advance 0 = .next s := by
  rw [Access.ok_advance, BitVec.add_zero]
  rfl

/-- R220, R222: pushing one byte is all a pushing instruction does. -/
theorem push8_advance_zero (v : Byte) (s : State) :
    (push8 v s).advance 0 = .next ((s.setRam (s.ram.write (stackIndex s.sp) v)).setSp (s.sp - 1#8)) := by
  rw [push8_eq, Access.ok_advance_zero]
  rfl

/-- R221, R223: a pulling instruction hands the byte above `SP` to `f`, in the state with `SP` past it. -/
theorem pop8_andThen_advance_zero (f : Byte → State → State) (s : State) :
    ((pop8 s).andThen fun v u => .ok () (f v u)).advance 0 =
      .next (f (s.ram.read (stackIndex (s.sp + 1#8))) (s.setSp (s.sp + 1#8))) := by
  rw [pop8_stackIndex, Access.ok_andThen, Access.ok_advance_zero]

/-- Settles O38: PHA and PHP push `A` and `phpStatus`, PLA and PLP pop into `loadA` and `restoredStatus`; the encodings
are read off the opcode table. -/
theorem stackInstructionsComplete : Obligations.StackInstructionsComplete := by
  unfold Obligations.StackInstructionsComplete
  refine fun s => ⟨push8_advance_zero s.a s, pop8_andThen_advance_zero loadA s, push8_advance_zero (phpStatus s.p) s,
    pop8_andThen_advance_zero (fun v u => u.setP (restoredStatus v)) s, ?_, ?_, ?_, ?_⟩ <;>
    exact encodedAs_of_optable (by decide) (by decide)

/-! ### The flag instructions -/

/-- R16: clearing a flag keeps the bits of `P` outside its mask. -/
theorem writeFlag_false (f : Flag) (s : State) : writeFlag f false s = .next (s.setP (s.p &&& ~~~f.mask)) := rfl

/-- R16: setting a flag adds its mask to `P`. -/
theorem writeFlag_true (f : Flag) (s : State) : writeFlag f true s = .next (s.setP (s.p ||| f.mask)) := rfl

/-- Settles O39: each of the seven meanings is `writeFlag` at its flag, whose mask or its complement is the literal of
the statement; the encodings are read off the opcode table. -/
theorem flagInstructionsComplete : Obligations.FlagInstructionsComplete := by
  unfold Obligations.FlagInstructionsComplete
  refine fun s => ⟨writeFlag_false .c s, writeFlag_true .c s, writeFlag_false .i s, writeFlag_true .i s,
    writeFlag_false .d s, writeFlag_true .d s, writeFlag_false .v s, ?_, ?_, ?_, ?_, ?_, ?_, ?_⟩ <;>
    exact encodedAs_of_optable (by decide) (by decide)

end Sys2Proof.Machine

/-! ## Undocumented opcodes that combine two operations (45_undocumented.md R241 to R244, R247 to R252) -/

namespace Sys2Proof.Machine

open Sys2Proof.Statements

/-! ### A memory shift and an operation with its result -/

/-- R241 to R243: an instruction that shifts the byte and then loads `op` of the accumulator and the result. The read of
the byte leaves the carry that enters as it was. -/
theorem modifies_of_mnemonic_shiftThenLoad {m : Mnemonic} {core : ShiftCore} {op : Byte → Byte → Byte}
    (hf : everyFormDirect m = true)
    (hm : execAs m = modifyForm (withCarry core) fun r c s => loadA (op s.a r) (shiftedMem r c s)) (i : Instr)
    (s : State) (hi : i.mnemonic = m) :
    Modifies i s (fun v => (core v (flag s.p .c)).1) fun v u =>
      let r := (core v (flag s.p .c)).1
      { u with a := op u.a r, p := setZN (shiftFlags r (core v (flag s.p .c)).2 u.p) (op u.a r) } :=
  modifies_of_mnemonic hf hm (fun _ _ _ => rfl) i s hi

/-- R244: the carry-in of an addition after a memory shift is the bit shifted out. -/
theorem addWithCarry_shiftedMem (r : Byte) (c : Bool) (s : State) :
    addWithCarry r (shiftedMem r c s) =
      { s with a := addResult s.a r c, p := addFlags s.a r (shiftFlags r c s.p) } := by
  have carry : flag (shiftFlags r c s.p) .c = c := (flag_shiftFlags_czn r s.p c).1
  simp only [addWithCarry, shiftedMem, State.setP, State.setA, carry]

theorem execAs_rra : execAs .rra = modifyForm (withCarry rorCore) fun r c s =>
    { s with a := addResult s.a r c, p := addFlags s.a r (shiftFlags r c s.p) } :=
  congrArg (modifyForm (withCarry rorCore)) (funext fun r => funext fun c => funext (addWithCarry_shiftedMem r c))

/-- Settles O40: SLO, RLA and SRE are their shift and then a load of the combined byte; RRA is the modifying shape with
ROR's core, and its carry-in is that of `addWithCarry_shiftedMem`; the encodings are read off the opcode table. -/
theorem shiftCombinationsCompleteInEveryForm : Obligations.ShiftCombinationsCompleteInEveryForm := by
  unfold Obligations.ShiftCombinationsCompleteInEveryForm
  refine ⟨modifies_of_mnemonic_shiftThenLoad (core := aslCore) (op := (· ||| ·)) rfl rfl,
    modifies_of_mnemonic_shiftThenLoad (core := rolCore) (op := (· &&& ·)) rfl rfl,
    modifies_of_mnemonic_shiftThenLoad (core := lsrCore) (op := (· ^^^ ·)) rfl rfl,
    modifies_of_mnemonic rfl execAs_rra fun _ _ _ => rfl, ?_, ?_, ?_, ?_⟩ <;>
    exact encodedAs_of_optable (by decide) (by decide)

/-! ### A decrement and a compare, an increment and a subtraction -/

/-- R247, R248: an instruction that replaces the byte by `new` of it and then does `after` with the computed byte. -/
theorem modifies_of_mnemonic_byte {m : Mnemonic} {new : Byte → Byte} {after : Byte → State → State}
    (hf : everyFormDirect m = true) (hm : execAs m = modifyForm (fun v _ => (new v, ())) fun r _ s => after r s)
    (i : Instr) (s : State) (hi : i.mnemonic = m) : Modifies i s new fun v u => after (new v) u :=
  modifies_of_mnemonic hf hm (fun _ _ _ => rfl) i s hi

/-- Settles O41: both meanings are the modifying shape with a core that looks at the byte alone, then `Compare` of the
accumulator with the computed byte, or `AddWithCarry` of its complement; the encodings are read off the opcode table. -/
theorem dcpAndIsbCompleteInEveryForm : Obligations.DcpAndIsbCompleteInEveryForm := by
  unfold Obligations.DcpAndIsbCompleteInEveryForm
  refine ⟨modifies_of_mnemonic_byte (after := fun r s => compareWith s.a r s) rfl rfl,
    modifies_of_mnemonic_byte (after := fun r => addWithCarry (~~~r)) rfl rfl, ?_, ?_⟩ <;>
    exact encodedAs_of_optable (by decide) (by decide)

/-! ### The immediate combinations -/

/-- R94: the operand of an Immediate form is there already, so its reading instruction makes no bus read and nothing
stops it. -/
theorem exec_of_mnemonic_imm {i : Instr} {n : Mnemonic} {m : Byte} {f : Byte → State → State} (hi : i.mnemonic = n)
    (ho : i.operand = .imm m) (hn : execAs n = readForm f) (s : State) :
    exec i s = .next ((f m s).setPc ((f m s).pc + 1#16)) := by
  rw [exec_eq, hi, hn, ho]
  exact readForm_of_readOperand_ok rfl

/-- R249: what ANC writes of `P`, from its result: `C` is a copy of `N`. -/
theorem flag_ancFlags_czn (r p : Byte) :
    flag (ancFlags r p) .c = r.getLsbD 7 ∧ flag (ancFlags r p) .n = r.getLsbD 7 ∧
      (flag (ancFlags r p) .z = true ↔ r = 0x00#8) := by
  simp [flag_ancFlags]

/-- R251: what ARR writes of `P`, from its result. -/
theorem flag_arrFlags_cvzn (r p : Byte) :
    flag (arrFlags r p) .c = r.getLsbD 6 ∧ flag (arrFlags r p) .v = (r.getLsbD 6 ^^ r.getLsbD 5) ∧
      flag (arrFlags r p) .n = r.getLsbD 7 ∧ (flag (arrFlags r p) .z = true ↔ r = 0x00#8) := by
  simp [flag_arrFlags]

/-- Settles O42: each of the four meanings is the reading shape at an Immediate operand, with the next state the model
writes; the flags are those of `flag_ancFlags_czn` and `flag_arrFlags_cvzn`; the encodings are read off the opcode
table. -/
theorem immediateCombinationsComplete : Obligations.ImmediateCombinationsComplete := by
  unfold Obligations.ImmediateCombinationsComplete
  refine ⟨fun i m s hi ho => (exec_of_mnemonic_imm hi ho rfl s).trans rfl,
    fun m s => (exec_of_mnemonic_imm (i := .alrImm m) rfl rfl rfl s).trans rfl,
    fun m s => (exec_of_mnemonic_imm (i := .arrImm m) rfl rfl rfl s).trans rfl,
    fun m s => (exec_of_mnemonic_imm (i := .axsImm m) rfl rfl rfl s).trans rfl, fun r p => ?_, ?_, ?_, ?_, ?_⟩
  · obtain ⟨hc, hn, hz⟩ := flag_ancFlags_czn r p
    exact ⟨hc, hn, hz, flag_arrFlags_cvzn r p⟩
  all_goals exact encodedAs_of_optable (by decide) (by decide)

end Sys2Proof.Machine

/-! ## Reset (70_reset_and_hazards.md R350, R351) -/

namespace Sys2Proof.Machine

/-- Settles O5: every value is the one `State.resetWith` writes, the empty stores read 0x00, and the program counter is
what the bus reads at the reset vector. -/
theorem resetLeavesTheResetValues : Obligations.ResetLeavesTheResetValues := by
  unfold Obligations.ResetLeavesTheResetValues
  intro c s
  have empty (k : Nat) : s.ram.read k = 0x00#8 ∧ s.ppu.vram.read k = 0x00#8 ∧ s.ppu.palette.read k = 0x00#8 ∧
      s.ppu.oam.read k = 0x00#8 := ⟨rfl, rfl, rfl, rfl⟩
  exact ⟨rfl, rfl, rfl, rfl, rfl, rfl, rfl, rfl, rfl, empty, rfl, rfl, rfl, rfl, rfl, rfl, rfl, rfl, rfl, rfl, rfl, rfl,
    rfl, read16_resetVector s, rfl⟩

theorem nil_wf_within (n : Nat) : Memory.wf [] ∧ Memory.within n [] :=
  ⟨Memory.wf_nil, fun _ hc => nomatch hc⟩

theorem Ppu.reset_ok : Ppu.reset.Ok where
  vram := nil_wf_within _
  palette := nil_wf_within _
  oam := nil_wf_within _
  addr := Nat.zero_le _
  status := .inl rfl
  scanLine := by decide
  cycleCounter := by decide

/-- Settles O7: the stores are empty, the PPU's counters zero, and `P` is 0x24, with Break clear and Break2 set. -/
theorem resetMeetsTheInvariant : Obligations.ResetMeetsTheInvariant := by
  unfold Obligations.ResetMeetsTheInvariant
  intro c hc
  have data : (State.resetWith c).DataOk := ⟨nil_wf_within _, Ppu.reset_ok, hc⟩
  have live : flag 0x24#8 .b = false ∧ flag 0x24#8 .u = true := by decide
  exact (State.inv_iff _).2 ⟨data, live, fun _ => rfl⟩

end Sys2Proof.Machine

/-! ## The PPU: the register ports (50_ppu.md R273 to R280) -/

namespace Sys2Proof.Machine

/-! ### Control, Mask, OAM and Status -/

/-- Settles O48: the latch's new value is the disjunction R273 gives. -/
theorem controlWriteRearmsTheNmi : Obligations.ControlWriteRearmsTheNmi := by
  unfold Obligations.ControlWriteRearmsTheNmi
  refine fun v s => ⟨s.setPpu (ctrlWrite v s.ppu), rfl, rfl, ?_⟩
  simp [ctrlWrite, and_assoc]

/-- Settles O49: a write of port 4 is one write to the store of OAM, at the pointer as it was. -/
theorem maskAndOamPorts : Obligations.MaskAndOamPorts := by
  unfold Obligations.MaskAndOamPorts
  exact fun v s => ⟨rfl, rfl, rfl, s.setPpu (oamDataWrite v s.ppu), rfl, rfl, Memory.read_write_same _ _ v,
    fun k hk => Memory.read_write_other _ v hk⟩

theorem statusRead_bit (q : Ppu) (k : Nat) :
    (statusReadEffect q).status.getLsbD k = (decide (k ≠ 7) && q.status.getLsbD k) := by
  by_cases hk : k < 8
  · interval_cases k <;> simp [statusReadEffect]
  · simp [BitVec.getLsbD_of_ge _ k (not_lt.1 hk)]

/-- A Status read leaves nothing for a second one to change (R275). -/
theorem statusReadEffect_idem (q : Ppu) : statusReadEffect (statusReadEffect q) = statusReadEffect q := by
  simp [statusReadEffect, BitVec.and_assoc]

/-- Settles O51: the read clears bit 7 by a mask, and masking twice is masking once. -/
theorem statusReadClearsVblankAndLatches : Obligations.StatusReadClearsVblankAndLatches := by
  unfold Obligations.StatusReadClearsVblankAndLatches
  refine fun s => ⟨s.setPpu (statusReadEffect s.ppu), rfl, rfl, ?_, fun k hk => ?_, ?_⟩
  · exact statusRead_bit s.ppu 7
  · exact (statusRead_bit s.ppu k).trans (by simp [hk])
  · rw [portRead, State.updPpu, State.setPpu_ppu, statusReadEffect_idem]; rfl

/-! ### The two write latches -/

/-- Masking an address to 14 bits masks its high byte to 6 (R280). -/
theorem cat_mask14 (h l : Byte) : cat h l &&& 0x3FFF#16 = cat (h &&& 0x3F#8) l := by
  have hl := l.isLt
  have hword : (cat h l &&& 0x3FFF#16).toNat = (cat h l).toNat % 2 ^ 14 := by
    rw [BitVec.toNat_and]
    exact Nat.and_two_pow_sub_one_eq_mod _ 14
  have hhigh : (h &&& 0x3F#8).toNat = h.toNat % 2 ^ 6 := by
    rw [BitVec.toNat_and]
    exact Nat.and_two_pow_sub_one_eq_mod _ 6
  apply BitVec.eq_of_toNat_eq
  rw [hword, cat_toNat, cat_toNat, hhigh]
  omega

theorem addrWrite_first {q : Ppu} (v : Byte) (h : q.addrLatch = .first) :
    addrWrite v q = { q with addr := cat (v &&& 0x3F#8) (lo q.addr), addrLatch := .second } := by
  rw [addrWrite, h]
  dsimp only
  rw [cat_mask14]

theorem addrWrite_second {q : Ppu} (v : Byte) (h : q.addrLatch = .second) :
    addrWrite v q = { q with addr := cat (hi q.addr &&& 0x3F#8) v, addrLatch := .first } := by
  rw [addrWrite, h]
  dsimp only
  rw [cat_mask14]

theorem scrollWrite_first {q : Ppu} (v : Byte) (h : q.scrollLatch = .first) :
    scrollWrite v q = { q with scrollX := v, scrollLatch := .second } := by
  rw [scrollWrite, h]

theorem scrollWrite_second {q : Ppu} (v : Byte) (h : q.scrollLatch = .second) :
    scrollWrite v q = { q with scrollY := v, scrollLatch := .first } := by
  rw [scrollWrite, h]

/-- R280: the second write keeps the high byte the first one left, masked already. -/
theorem addrWrite_pair {q : Ppu} (h l : Byte) (hq : q.addrLatch = .first) :
    addrWrite l (addrWrite h q) = { q with addr := cat (h &&& 0x3F#8) l } := by
  rw [addrWrite_first h hq, addrWrite_second l rfl]
  simp [BitVec.and_assoc, hq]

theorem scrollWrite_pair {q : Ppu} (x y : Byte) (hq : q.scrollLatch = .first) :
    scrollWrite y (scrollWrite x q) = { q with scrollX := x, scrollY := y } := by
  rw [scrollWrite_first x hq, scrollWrite_second y rfl]
  simp [hq]

theorem portWrite_six (v : Byte) (s : State) : portWrite 6 v s = .ok () (s.setPpu (addrWrite v s.ppu)) := rfl

theorem portWrite_five (v : Byte) (s : State) : portWrite 5 v s = .ok () (s.setPpu (scrollWrite v s.ppu)) := rfl

/-- Settles O50: each of the two ports by its write at First, its write at Second, and the pair. -/
theorem scrollAndAddressLatches : Obligations.ScrollAndAddressLatches := by
  unfold Obligations.ScrollAndAddressLatches
  refine ⟨fun h l s hs => ⟨_, portWrite_six h s, ?_, ?_⟩, fun v s hs => ?_,
    fun x y s hs => ⟨_, portWrite_five x s, ?_, ?_⟩, fun v s hs => ?_, fun s => ⟨_, _, rfl, rfl, rfl⟩⟩
  · rw [addrWrite_first h hs]; rfl
  · rw [portWrite_six, State.setPpu_ppu, addrWrite_pair h l hs]; rfl
  · rw [portWrite_six, addrWrite_second v hs]; rfl
  · rw [scrollWrite_first x hs]; rfl
  · rw [portWrite_five, State.setPpu_ppu, scrollWrite_pair x y hs]; rfl
  · rw [portWrite_five, scrollWrite_second v hs]; rfl

end Sys2Proof.Machine

/-! ## The PPU: the address map and the data port (50_ppu.md R281 to R286, R296, R297) -/

namespace Sys2Proof.Machine

/-- Settles O54, by the two equations of the address map. -/
theorem nametableFoldAndPaletteAliases : Obligations.NametableFoldAndPaletteAliases := by
  unfold Obligations.NametableFoldAndPaletteAliases
  exact ⟨fun a hlo hhi => ⟨mirrorVram_eq .horizontal hlo hhi, mirrorVram_eq .vertical hlo hhi,
    mirrorVram_eq .fourScreen hlo hhi⟩, paletteIndex_eq⟩

theorem ppuCell_chr (m : Mirroring) {a : Word} (h : a.toNat ≤ 0x1FFF) : ppuCell m a = .chr a := by
  rw [ppuCell, if_pos h]

theorem ppuCell_vram (m : Mirroring) {a : Word} (hlo : 0x2000 ≤ a.toNat) (hhi : a.toNat ≤ 0x3EFF) :
    ppuCell m a = .vram (mirrorVram m a) := by
  rw [ppuCell, if_neg (by omega), if_pos hhi]

theorem ppuCell_palette (m : Mirroring) {a : Word} (h : 0x3F00 ≤ a.toNat) :
    ppuCell m a = .palette (paletteIndex a) := by
  rw [ppuCell, if_neg (by omega), if_neg (by omega)]

/-! ### A data access by the cell addressed -/

theorem dataRead_of_chr {s : State} {a : Word} (h : ppuCell s.cart.mirroring s.ppu.addr = .chr a) :
    dataRead s = .ok s.ppu.readBuffer (s.setPpu { vramIncrement s.ppu with readBuffer := s.cart.chrRead a }) := by
  rw [dataRead, h]; rfl

theorem dataRead_of_vram {s : State} {i : Nat} (h : ppuCell s.cart.mirroring s.ppu.addr = .vram i) (hi : i < 0x800) :
    dataRead s = .ok s.ppu.readBuffer (s.setPpu { vramIncrement s.ppu with readBuffer := s.ppu.vram.read i }) := by
  rw [dataRead, h]
  exact if_pos hi

theorem dataRead_of_vram_outside {s : State} {i : Nat} (h : ppuCell s.cart.mirroring s.ppu.addr = .vram i)
    (hi : 0x800 ≤ i) : dataRead s = .stop ((s.setPpu (vramIncrement s.ppu)).setRun (.vramRange i)) := by
  rw [dataRead, h]
  exact if_neg (not_lt.2 hi)

theorem dataRead_of_palette {s : State} {i : Nat} (h : ppuCell s.cart.mirroring s.ppu.addr = .palette i) :
    dataRead s = .ok (s.ppu.palette.read i) (s.setPpu (vramIncrement s.ppu)) := by
  rw [dataRead, h]; rfl

theorem dataWrite_of_vram {s : State} {i : Nat} (v : Byte) (h : ppuCell s.cart.mirroring s.ppu.addr = .vram i)
    (hi : i < 0x800) :
    dataWrite v s = .ok () (s.setPpu (vramIncrement { s.ppu with vram := s.ppu.vram.write i v })) := by
  rw [dataWrite, h]
  exact if_pos hi

theorem dataWrite_of_vram_outside {s : State} {i : Nat} (v : Byte)
    (h : ppuCell s.cart.mirroring s.ppu.addr = .vram i) (hi : 0x800 ≤ i) :
    dataWrite v s = .stop (s.setRun (.vramRange i)) := by
  rw [dataWrite, h]
  exact if_neg (not_lt.2 hi)

theorem dataWrite_of_palette {s : State} {i : Nat} (v : Byte)
    (h : ppuCell s.cart.mirroring s.ppu.addr = .palette i) :
    dataWrite v s = .ok () (s.setPpu (vramIncrement { s.ppu with palette := s.ppu.palette.write i v })) := by
  rw [dataWrite, h]; rfl

/-- Settles O52: the address names one of three cells, and a data read of each is an equation. -/
theorem dataReadIsBufferedOneByteBehind : Obligations.DataReadIsBufferedOneByteBehind := by
  unfold Obligations.DataReadIsBufferedOneByteBehind
  intro s a on i
  refine ⟨fun h => ?_, fun hlo hhi hi => ?_, fun hlo hhi hi => ?_, fun h => ?_⟩
  · exact dataRead_of_chr (ppuCell_chr _ h)
  · exact dataRead_of_vram (ppuCell_vram _ hlo hhi) hi
  · exact dataRead_of_vram_outside (ppuCell_vram _ hlo hhi) hi
  · exact dataRead_of_palette (ppuCell_palette _ h)

/-- Settles O53: a data write to a nametable or the palette is one write to the store of the cell addressed. -/
theorem dataWriteStoresAndIncrements : Obligations.DataWriteStoresAndIncrements := by
  unfold Obligations.DataWriteStoresAndIncrements
  intro v s a on i
  refine ⟨fun hlo hhi hi => ?_, fun hlo hhi hi => ?_, fun h => ?_⟩
  · exact ⟨_, dataWrite_of_vram v (ppuCell_vram _ hlo hhi) hi, rfl, Memory.read_write_same _ _ v,
      fun k hk => Memory.read_write_other _ v hk⟩
  · exact dataWrite_of_vram_outside v (ppuCell_vram _ hlo hhi) hi
  · exact ⟨_, dataWrite_of_palette v (ppuCell_palette _ h), rfl, Memory.read_write_same _ _ v,
      fun k hk => Memory.read_write_other _ v hk⟩

end Sys2Proof.Machine

/-! ## The PPU: the raster (50_ppu.md R289 to R291) -/

namespace Sys2Proof.Machine

open Sys2Proof.Statements

theorem ppuTick_within_line {n : Nat} {q : Ppu} (h : q.cycleCounter + n < 341) :
    ppuTick n q = ({ q with cycleCounter := q.cycleCounter + n }, false) :=
  if_neg (not_le.2 h)

@[simp] theorem nextScanline_scanLine (q : Ppu) : (nextScanline q).scanLine = q.scanLine + 1 := by
  rw [nextScanline_eq]

@[simp] theorem nextScanline_cycleCounter (q : Ppu) : (nextScanline q).cycleCounter = q.cycleCounter - 341 := by
  rw [nextScanline_eq]; rfl

/-- Past the end of a scanline other than the last a tick is `nextScanline`. -/
theorem ppuTick_next_line {n : Nat} {q : Ppu} (h : 341 ≤ q.cycleCounter + n) (hline : q.scanLine < 261) :
    ppuTick n q = (nextScanline { q with cycleCounter := q.cycleCounter + n }, false) := by
  have hframe : ¬ Params.scanlinesPerFrame ≤ (nextScanline { q with cycleCounter := q.cycleCounter + n }).scanLine := by
    rw [nextScanline_scanLine]
    exact not_le.2 (Nat.succ_lt_succ hline)
  exact (if_pos h).trans (if_neg hframe)

theorem ppuTick_next_frame {n : Nat} {q : Ppu} (h : 341 ≤ q.cycleCounter + n) (hline : q.scanLine = 261) :
    ppuTick n q = (frameWrap (nextScanline { q with cycleCounter := q.cycleCounter + n }), true) := by
  have hframe : Params.scanlinesPerFrame ≤ (nextScanline { q with cycleCounter := q.cycleCounter + n }).scanLine := by
    rw [nextScanline_scanLine, hline]
    exact le_rfl
  exact (if_pos h).trans (if_pos hframe)

theorem nextScanline_of_ne_vblank {q : Ppu} (h : q.scanLine ≠ 240) :
    nextScanline q = { q with cycleCounter := q.cycleCounter - 341, scanLine := q.scanLine + 1 } := by
  have hline : q.scanLine + 1 ≠ Params.vblankScanline := fun e => h (Nat.succ_inj.1 e)
  rw [nextScanline_eq, if_neg hline, if_neg hline]; rfl

theorem nextScanline_of_vblank {q : Ppu} (h : q.scanLine = 240) :
    nextScanline q = { q with
      cycleCounter := q.cycleCounter - 341, scanLine := 241, status := (q.status ||| 0x80#8) &&& 0xBF#8
      nmiLatch := q.nmiLatch || q.ctrl.getLsbD 7 } := by
  have hline : q.scanLine + 1 = Params.vblankScanline := by rw [h]; rfl
  rw [nextScanline_eq, if_pos hline, if_pos hline, h]; rfl

theorem frameWrap_nextScanline {q : Ppu} (h : q.scanLine = 261) :
    frameWrap (nextScanline q) = { q with
      cycleCounter := q.cycleCounter - 341, scanLine := 0, status := q.status &&& 0x3F#8, nmiLatch := false } := by
  rw [nextScanline_of_ne_vblank (by omega)]; rfl

/-- The scanline after a line that ended is the next one modulo 262 (R289, R291). -/
theorem ppuTick_past_line {n : Nat} {q : Ppu} (h : 341 ≤ q.cycleCounter + n) (hscan : q.scanLine < 262) :
    (ppuTick n q).1.cycleCounter = q.cycleCounter + n - 341 ∧
      (ppuTick n q).1.scanLine = (q.scanLine + 1) % 262 := by
  by_cases hlast : q.scanLine = 261
  · rw [ppuTick_next_frame h hlast, hlast]
    exact ⟨nextScanline_cycleCounter _, rfl⟩
  · rw [ppuTick_next_line h (by omega), Nat.mod_eq_of_lt (by omega)]
    exact ⟨nextScanline_cycleCounter _, nextScanline_scanLine _⟩

/-- R289, R362: the place in the frame moves by `n` modulo the 262 * 341 cycles of a frame. -/
theorem framePosition_ppuTick {n : Nat} {q : Ppu} (hn : n ≤ 341) (hcycle : q.cycleCounter < 341)
    (hscan : q.scanLine < 262) : framePosition (ppuTick n q).1 = (framePosition q + n) % 89342 := by
  by_cases h : q.cycleCounter + n < 341
  · rw [ppuTick_within_line h, framePosition, framePosition]
    dsimp only
    omega
  · obtain ⟨ecycle, escan⟩ := ppuTick_past_line (not_lt.1 h) hscan
    rw [framePosition, framePosition, ecycle, escan]
    omega

/-- Settles O55: the tick within a line, into a line that is or is not the vblank one, and into the next frame. -/
theorem tickMovesTheRaster : Obligations.TickMovesTheRaster := by
  unfold Obligations.TickMovesTheRaster
  intro n q hn hcycle hscan rest
  refine ⟨ppuTick_within_line, fun h hvblank hlast => ?_, fun h hvblank => ?_, fun h hlast => ?_,
    framePosition_ppuTick (hn.trans (by decide)) hcycle hscan⟩
  · rw [ppuTick_next_line h (by omega)]
    exact congrArg (·, false) (nextScanline_of_ne_vblank hvblank)
  · rw [ppuTick_next_line h (by omega)]
    exact congrArg (·, false) (nextScanline_of_vblank hvblank)
  · rw [ppuTick_next_frame h hlast]
    exact congrArg (·, true) (frameWrap_nextScanline hlast)

end Sys2Proof.Machine

/-! ## The PPU: the bytes of its memories an instruction stores to (50_ppu.md R278, R281, R283, R286;
70_reset_and_hazards.md R355) -/

namespace Sys2Proof.Machine

open Sys2Proof.Statements

/-! ### The data port's address at the write -/

/-- R281: a data read leaves the Address register incremented, whichever cell it names. -/
theorem dataRead_addr {s t : State} {v : Byte} (h : dataRead s = .ok v t) :
    t.ppu.addr = (vramIncrement s.ppu).addr := by
  unfold dataRead at h
  dsimp only at h
  split at h
  · cases h; rfl
  · split at h <;> cases h
    rfl
  · cases h; rfl

theorem busRead_dataPort_addr {a : Word} {s t : State} {v : Byte} (ha : dataPort a) (h : busRead a s = .ok v t) :
    t.ppu.addr = (vramIncrement s.ppu).addr := by
  obtain ⟨hlo, hhi, hport⟩ := ha
  rw [busRead_port s hlo hhi, portOf_eq hlo hhi, hport] at h
  exact dataRead_addr h

theorem not_modifying_of_storing {m : Mnemonic} (h : m ∈ storing) : m ∉ modifying := by
  have all : ∀ m ∈ storing, m ∉ modifying := by decide
  exact all m h

/-! ### What the one store of an instruction changes -/

/-- The PPU's memories and its OAM pointer. -/
structure SameMemories (q r : Ppu) : Prop where
  vram : r.vram = q.vram
  palette : r.palette = q.palette
  oam : r.oam = q.oam
  oamAddr : r.oamAddr = q.oamAddr

theorem sameMemories_of_samePpu {q r : Ppu} (h : SamePpuApartFromPortReads q r) : SameMemories q r := by
  obtain ⟨-, -, hoamAddr, -, -, -, -, -, hvram, hpalette, hoam⟩ := h
  exact ⟨hvram, hpalette, hoam, hoamAddr⟩

/-- The PPU of `t` is the one after a write to the store target of `i` at the PPU `q`, which has the memories of `s` and,
where the target is the data port, the Address register of `dataPortAddress`. -/
structure StoredAt (i : Instr) (s t : State) (ea : Word) (q : Ppu) : Prop where
  target : storeTarget i s = some ea
  memories : SameMemories s.ppu q
  addr : dataPort ea → q.addr = dataPortAddress i s
  write : ∃ v u, WriteEffect ea v (s.setPpu q) u ∧ t.ppu = u.ppu

/-- R281, R355: a read-modify-write instruction has moved the Address register by its read when it writes. -/
theorem exec_memories_or_stores {i : Instr} {s t : State} (h : exec i s = .next t) :
    SameMemories s.ppu t.ppu ∨ ∃ ea q, StoredAt i s t ea q := by
  cases exec_effect h with
  | reads q r hq hr ht => exact .inl (ht.ppu.symm ▸ sameMemories_of_samePpu (samePpu_trans hq.samePpu hr.samePpu))
  | halt hm ht => subst ht; exact .inl ⟨rfl, rfl, rfl, rfl⟩
  | push hm v ht => exact .inl (ht.ppu.symm ▸ ⟨rfl, rfl, rfl, rfl⟩)
  | push2 hm v w ht => exact .inl (ht.ppu.symm ▸ ⟨rfl, rfl, rfl, rfl⟩)
  | store hm hd v u hu ht =>
    refine .inr ⟨_, s.ppu, storeTarget_direct s (.inl hm) hd, ⟨rfl, rfl, rfl, rfl⟩, fun _ => ?_, v, u, hu, ht.ppu⟩
    rw [dataPortAddress, if_neg (not_modifying_of_storing hm)]
  | modify hm hd b v q u hb hq hu ht =>
    refine .inr ⟨_, q, storeTarget_direct s (.inr hm) hd, sameMemories_of_samePpu hq.samePpu, fun hport => ?_, v, u, hu,
      ht.ppu⟩
    exact (busRead_dataPort_addr hport hb).trans (if_pos hm).symm
  | stop q hq ht => exact .inl (sameMemories_of_samePpu (samePpu_trans hq.samePpu ht.samePpu))

/-- A register port writes none of the PPU's memories. -/
theorem registerWrite_memories {v : Byte} {q r : Ppu} (h : r = ctrlWrite v q ∨ r = maskWrite v q ∨
    r = oamAddrWrite v q ∨ r = scrollWrite v q ∨ r = addrWrite v q) :
    r.vram = q.vram ∧ r.palette = q.palette ∧ r.oam = q.oam := by
  obtain rfl | rfl | rfl | rfl | rfl := h
  · exact ⟨rfl, rfl, rfl⟩
  · exact ⟨rfl, rfl, rfl⟩
  · exact ⟨rfl, rfl, rfl⟩
  · rw [scrollWrite]
    cases q.scrollLatch <;> exact ⟨rfl, rfl, rfl⟩
  · rw [addrWrite]
    cases q.addrLatch <;> exact ⟨rfl, rfl, rfl⟩

theorem WriteEffect.oam_read {ea : Word} {v : Byte} {s t : State} (h : WriteEffect ea v s t) {k : Nat}
    (hk : 0x2000 ≤ ea.toNat ∧ ea.toNat ≤ 0x3FFF ∧ ea.toNat % 8 = 4 → k ≠ s.ppu.oamAddr.toNat) :
    t.ppu.oam.read k = s.ppu.oam.read k := by
  cases h with
  | port q hea hq =>
    obtain ⟨-, -, hoam⟩ := registerWrite_memories hq
    rw [State.setPpu_ppu, hoam]
  | oam hea => exact Memory.read_write_other _ v (hk hea)
  | _ => rfl

theorem WriteEffect.vram_read {ea : Word} {v : Byte} {s t : State} (h : WriteEffect ea v s t) {k : Nat}
    (hk : dataPort ea → ppuCell s.cart.mirroring s.ppu.addr ≠ .vram k) : t.ppu.vram.read k = s.ppu.vram.read k := by
  cases h with
  | port q hea hq =>
    obtain ⟨hvram, -, -⟩ := registerWrite_memories hq
    rw [State.setPpu_ppu, hvram]
  | vram j hea hc hj => exact Memory.read_write_other _ v fun e => hk hea (e ▸ hc)
  | _ => rfl

theorem WriteEffect.palette_read {ea : Word} {v : Byte} {s t : State} (h : WriteEffect ea v s t) {k : Nat}
    (hk : dataPort ea → ppuCell s.cart.mirroring s.ppu.addr ≠ .palette k) :
    t.ppu.palette.read k = s.ppu.palette.read k := by
  cases h with
  | port q hea hq =>
    obtain ⟨-, hpalette, -⟩ := registerWrite_memories hq
    rw [State.setPpu_ppu, hpalette]
  | palette j hea hc hj => exact Memory.read_write_other _ v fun e => hk hea (e ▸ hc)
  | _ => rfl

/-- Settles O46: the one write of an instruction reaches OAM through port 4 alone, at the pointer no read moves, and the
nametables and palette through port 7 alone, at the cell the Address register names once the reads are done. -/
theorem onlyPortStoresChangePpuMemory : Obligations.OnlyPortStoresChangePpuMemory := by
  unfold Obligations.OnlyPortStoresChangePpuMemory
  intro i s t k h
  obtain hsame | ⟨ea, q, htarget, hq, haddr, v, u, hu, hppu⟩ := exec_memories_or_stores h
  · rw [hsame.oam, hsame.vram, hsame.palette]
    exact ⟨fun _ => rfl, fun _ => rfl, fun _ => rfl⟩
  · have stored {port : Nat} (hea : 0x2000 ≤ ea.toNat ∧ ea.toNat ≤ 0x3FFF ∧ ea.toNat % 8 = port) :
        portStored i s = some port := by
      obtain ⟨hlo, hhi, hport⟩ := hea
      rw [portStored_eq htarget, if_pos ⟨hlo, hhi⟩, hport]
    rw [hppu, ← hq.oam, ← hq.vram, ← hq.palette]
    refine ⟨fun hk => hu.oam_read fun hea e => hk ⟨stored hea, e.trans ?_⟩,
      fun hk => hu.vram_read fun hea hc => hk ⟨stored hea, haddr hea ▸ hc⟩,
      fun hk => hu.palette_read fun hea hc => hk ⟨stored hea, haddr hea ▸ hc⟩⟩
    rw [State.setPpu_ppu, hq.oamAddr]

end Sys2Proof.Machine

/-! ## The fatal faults of a step (60_exceptions.md R322, R325) -/

namespace Sys2Proof.Machine

/-- `run` records a nametable index outside the 2 KB, which the cartridge `c` can give (R325). -/
def VramFault (c : Cartridge) (run : RunStatus) : Prop :=
  ∃ k, run = .vramRange k ∧ c.mirroring = .fourScreen ∧ 0x800 ≤ k ∧ k ≤ 0xFFF

theorem StoppedFrom.vramFault {s t : State} (h : StoppedFrom s t) : VramFault s.cart t.run := by
  obtain ⟨k, q, rfl, -, hrange⟩ := h
  exact ⟨k, rfl, hrange⟩

/-- An instruction leaves `run`, halts it, or ends in VramRange. -/
theorem exec_run_cases {i : Instr} {s t : State} (h : exec i s = .next t) :
    t.run = s.run ∨ t.run = .haltedBrk ∨ VramFault s.cart t.run := by
  cases exec_effect h with
  | reads q r hq hr ht => exact .inl ht.run
  | halt hm ht => exact .inr (.inl (ht ▸ rfl))
  | push hm v ht => exact .inl ht.run
  | push2 hm v w ht => exact .inl ht.run
  | store hm hd v u hu ht => exact .inl (ht.run.trans hu.run)
  | modify hm hd b v q u hb hq hu ht => exact .inl (ht.run.trans hu.run)
  | stop q hq ht => exact .inr (.inr ht.vramFault)

@[simp] theorem tickPpu_run (cycles : Nat) (s : State) : (tickPpu cycles s).run = s.run := rfl

@[simp] theorem pollNmi_run (s : State) : (pollNmi s).run = s.run := by
  obtain ⟨-, e⟩ | ⟨-, e⟩ := pollNmi_cases s <;> rw [e]

@[simp] theorem endCycle_run (cycles : Nat) (s : State) : (endCycle cycles s).run = s.run := by
  unfold endCycle
  split <;> simp

/-- R19, R320: where `run` stands after a step. -/
theorem step_run_cases {s t : State} (h : step s = .next t) :
    t.run = .running ∨ t.run = .haltedBrk ∨ (∃ op, t.run = .unknownOpcode op s.pc) ∨ VramFault s.cart t.run := by
  obtain ⟨hrun, ⟨cycles, i, r, u, -, -, hexec, rfl⟩ | ⟨run, r, pc, rfl, -, hop | hfault⟩⟩ := step_cases h
  · rw [endCycle_run]
    obtain e | e | hfault := exec_run_cases hexec
    · exact .inl (e.trans hrun)
    · exact .inr (.inl e)
    · exact .inr (.inr (.inr hfault))
  · exact .inr (.inr (.inl hop))
  · exact .inr (.inr (.inr hfault))

/-- Settles O59: of the four ways `run` stands after a step, one is VramRange, with its cause, and none
ContractViolation. -/
theorem fatalFaultsOfAStep : Obligations.FatalFaultsOfAStep := by
  unfold Obligations.FatalFaultsOfAStep
  intro s t h
  obtain e | e | ⟨op, e⟩ | ⟨k, e, hrange⟩ := step_run_cases h <;> rw [e]
  · simp
  · simp
  · simp
  · refine ⟨fun j hj => ?_, by simp⟩
    cases hj
    exact hrange

end Sys2Proof.Machine
